-- ==== Sys2Proof/Word.lean ====
section
/-! DEFINITION. The two word types of the machine: bytes and 16-bit words (00_scope.md R7). -/

namespace Sys2Proof

/-- A memory cell, an accumulator, an operand byte: 8 bits (R7). -/
abbrev Byte := BitVec 8

/-- An address, PC, SP, X, a 16-bit operand: 16 bits; arithmetic wraps modulo 65,536 (R7, R10). -/
abbrev Word := BitVec 16

end Sys2Proof
end

