-- ==== Sys2Proof/Machine/Bits.lean ====
section
/-! DEFINITION. Bit fields, sign extension and byte order (00_scope.md R9, R10; 20_memory.md R72). -/

namespace Sys2Proof

/-- `w[15:8]`, the high byte (00_scope.md R9). -/
def hiByte (w : Word) : Byte := w.extractLsb' 8 8

/-- `w[7:0]`, the low byte (R9). -/
def loByte (w : Word) : Byte := w.extractLsb' 0 8

/-- `hi:lo`, concatenation with the high part first (R10). -/
def joinBytes (hi lo : Byte) : Word := hi ++ lo

/-- `zext_16(b)` (R10). -/
def zext16 (b : Byte) : Word := b.setWidth 16

/-- `sext_16(b)`: bit 7 copied into bits 15:8 (R10). -/
def sext16 (b : Byte) : Word := b.signExtend 16

end Sys2Proof
end

