-- ==== Sys2Proof/Config.lean ====
section
/-! DEFINITION. What a host sets or a model may vary (00_scope.md R8, 10_state.md R51 to R54), and the
constants with no body for what the spec leaves open. -/

namespace Sys2Proof

/-- The two processor variants (00_scope.md R2, 10_state.md R52). -/
inductive Variant where
  | m6800
  | m6803
  deriving DecidableEq, Repr

/-- The parameters of 00_scope.md R8 that have a default. They stand in State as plain data: the host
switches the first three between ticks (10_state.md R51 to R53), and a statement about every state
holds for every value of all of them. -/
structure Config where
  /-- `VARIANT`, the opcode table consulted (R52). -/
  variant : Variant
  /-- `CYCLE_MODE`: true is CPS, false is IPS (R51). -/
  cycleMode : Bool
  /-- `INC_ON_MISSING`: an INVALID opcode is skipped (true) or halts (false) (R53). -/
  incOnMissing : Bool
  /-- One less than `INVALID_CYCLES` (R8), so that no value of the field is below its bound. -/
  invalidExtra : Nat
  /-- `RESET_A` (R8). -/
  resetA : Byte
  /-- `RESET_B` (R8). -/
  resetB : Byte
  /-- `RESET_X` (R8). -/
  resetX : Word
  /-- `RESET_X2` (R8). -/
  resetX2 : Word
  /-- `RESET_CCR`; reset() forces bits 7:6 to 1 (R8). -/
  resetCcr : Byte
  /-- `RESET_PC_FROM_VECTOR` (R8, 70_reset_and_hazards.md R471). -/
  resetPcFromVector : Bool
  /-- `RESET_PC` (R8). -/
  resetPc : Word
  deriving DecidableEq, Repr

/-- `INVALID_CYCLES`, the cost of a skipped INVALID opcode: any Nat ≥ 1 (R8). -/
def Config.invalidCycles (c : Config) : Nat := c.invalidExtra + 1

/-- Every parameter at its default (R8), with the settings of 70_reset_and_hazards.md R476.
DEDUCED, unsafe: log 5. -/
def Config.default : Config :=
  { variant := .m6800
    cycleMode := false
    incOnMissing := true
    invalidExtra := 0
    resetA := 0x00
    resetB := 0x00
    resetX := 0x0000
    resetX2 := 0x0000
    resetCcr := 0xD0
    resetPcFromVector := true
    resetPc := 0x0000 }

/-- One less than `INT_ENTRY_CYCLES`. OPEN (00_scope.md R8, D4): no body, so no proof can see it. Log 6. -/
opaque Config.intEntryExtra : Nat

/-- `INT_ENTRY_CYCLES`, the elevated artificial cycle count of CPS interrupt entry: any Nat ≥ 1
(60_exceptions.md R429). Log 6. -/
def Config.intEntryCycles : Nat := Config.intEntryExtra + 1

/-- `KEY_ADDR`. OPEN (10_state.md R58, D24). Log 7. -/
opaque Config.keyAddr : Word

/-- `MOUSE_ADDR`. OPEN (10_state.md R58, D24). Log 7. -/
opaque Config.mouseAddr : Word

/-- V after the n-th DAA: a draw, any Boolean (42_arith_logic.md R263). Free value, log 8. -/
opaque Config.daaV : Nat → Bool

end Sys2Proof
end

