-- ==== Sys2Proof/Machine/State.lean ====
section
/-! DEFINITION. The state of the core (10_state.md R54), how a step can stop, and the state after reset. -/

namespace Sys2Proof.Machine

/-- The six flags of the condition code register (10_state.md R36). Bits 7 and 6 are hardwired to 1
(R37), so they are not held; the byte is `ccrByte` of Machine/Flags.lean. DEDUCED, safe: log 11. -/
structure Ccr where
  /-- bit 5, half carry -/
  h : Bool
  /-- bit 4, interrupt mask -/
  i : Bool
  /-- bit 3, negative -/
  n : Bool
  /-- bit 2, zero -/
  z : Bool
  /-- bit 1, overflow -/
  v : Bool
  /-- bit 0, carry -/
  c : Bool
  deriving DecidableEq, Repr

/-- `curIndReg`, the selector of the active index register (10_state.md R34): 0 is X, 1 is X2. -/
inductive IndexSel where
  | x
  | x2
  deriving DecidableEq, Repr

/-- The three asynchronous requests (60_exceptions.md R420). -/
inductive Request where
  | rst
  | nmi
  | irq
  deriving DecidableEq, Repr

/-- `pending`: NONE, one of RST, NMI, IRQ, or one of the three `*_SERVICE` values (10_state.md R44). -/
inductive Pending where
  | none
  | request (k : Request)
  | service (k : Request)
  deriving DecidableEq, Repr

/-- Memory as the list of its cells that do not hold 0x00, addresses strictly rising (`Memory.wf`). -/
abbrev Memory := List Host.Cell

/-- The state of the core: the record of 10_state.md R54, its `Config`, and the counter of free values. -/
@[ext]
structure State where
  /-- `PC` (R30) -/
  pc : Word
  /-- `SP` (R31) -/
  sp : Word
  /-- `A` (R32) -/
  a : Byte
  /-- `B` (R32) -/
  b : Byte
  /-- `X` (R33) -/
  x : Word
  /-- `X2` (R34) -/
  x2 : Word
  /-- `curIndReg` (R34) -/
  curIndReg : IndexSel
  /-- `CCR` (R36) -/
  ccr : Ccr
  /-- `pending` (R44) -/
  pending : Pending
  /-- `wai` (R46) -/
  wai : Bool
  /-- `cycle` (R47) -/
  cycle : Nat
  /-- `curCycles` (R47) -/
  curCycles : Nat
  /-- `mem` (R49) -/
  mem : Memory
  /-- `backup` (R49) -/
  backup : Memory
  /-- `Config` (R51 to R54) -/
  cfg : Config
  /-- The model's own counter of the draws made so far (42_arith_logic.md R263). Log 8. -/
  draws : Nat
  deriving DecidableEq, Repr

/-- Why a step stops with a fault. Neither changes a state element (R151, R436). -/
inductive Fault where
  /-- `Halt(pc, op)`: the opcode byte at `pc` is INVALID and `INC_ON_MISSING` is false
  (40_decode_dispatch.md R151, 45_ccr_system.md R395). Raised by `execInvalid`. Safe. -/
  | halt (pc : Word) (op : Byte)
  /-- `Fault(ServiceStateInIPS)`: an IPS tick found a `*_SERVICE` value (60_exceptions.md R436).
  Raised by `ipsTick`. Safe. -/
  | serviceStateInIPS
  deriving DecidableEq, Repr

/-- Why a step is refused. No instruction is. -/
inductive Refusal where
  /-- The instruction has no meaning yet. Raised by no arm of `exec`. Safe. -/
  | notModelled (mnemonic : String)
  deriving DecidableEq, Repr

/-- The outcome of a tick (10_state.md R60): `next` is `Ok`. -/
abbrev Result := Host.Outcome State Fault Refusal

/-- The state of 70_reset_and_hazards.md R476: `loadImage(zeros)`, then `reset()`, every parameter at its
default. PC is the zero RST vector (R471). Logs 2 to 5 and 8. -/
def State.reset : State :=
  { pc := 0x0000
    sp := 0x00FF
    a := 0x00
    b := 0x00
    x := 0x0000
    x2 := 0x0000
    curIndReg := .x
    ccr := { h := false, i := true, n := false, z := false, v := false, c := false }
    pending := .none
    wai := false
    cycle := 0
    curCycles := 0
    mem := []
    backup := []
    cfg := Config.default
    draws := 0 }

end Sys2Proof.Machine
end

