-- ==== Sys2Proof/Machine/Flags.lean ====
section
/-! DEFINITION. The condition code register as a byte (10_state.md R36, R37) and every flag computation
(40_decode_dispatch.md R160 to R169). A flag a function does not name is unchanged (R170). -/

namespace Sys2Proof.Machine

/-! ## The whole register -/

/-- A Boolean at a bit of a byte. -/
def flagBit (f : Bool) (mask : Byte) : Byte := if f then mask else 0

/-- The CCR as a byte: C 0, V 1, Z 2, N 3, I 4, H 5, bits 7:6 read 1 (10_state.md R36, R37). -/
def ccrByte (f : Ccr) : Byte :=
  0xC0 ||| flagBit f.h 0x20 ||| flagBit f.i 0x10 ||| flagBit f.n 0x08 ||| flagBit f.z 0x04 |||
    flagBit f.v 0x02 ||| flagBit f.c 0x01

/-- The CCR after a write of the whole register: bits 7:6 of the byte are ignored (R37). -/
def ccrOfByte (v : Byte) : Ccr :=
  { h := v.getLsbD 5, i := v.getLsbD 4, n := v.getLsbD 3, z := v.getLsbD 2, v := v.getLsbD 1, c := v.getLsbD 0 }

/-! ## Sign and zero -/

/-- `NZ8(r)` (R160). -/
def nz8 (r : Byte) (f : Ccr) : Ccr := { f with n := r.getLsbD 7, z := decide (r = 0) }

/-- `NZ16(r)` (R161). -/
def nz16 (r : Word) (f : Ccr) : Ccr := { f with n := r.getLsbD 15, z := decide (r = 0) }

/-- `Logic8(r)`, also `Move8(r)`: NZ8 and V cleared (R166, R167). -/
def logic8 (r : Byte) (f : Ccr) : Ccr := { nz8 r f with v := false }

/-- `Move16(r)`: NZ16 and V cleared (R167). -/
def move16 (r : Word) (f : Ccr) : Ccr := { nz16 r f with v := false }

/-! ## Addition and subtraction -/

/-- A carry or borrow in, 0 or 1. -/
def carryIn8 (c : Bool) : Byte := if c then 1 else 0

/-- The sum of `Add8(a, b, cin)` (R162). -/
def add8 (a b : Byte) (cin : Bool) : Byte := a + b + carryIn8 cin

/-- The difference of `Sub8(a, b, cin)` (R163). -/
def sub8 (a b : Byte) (cin : Bool) : Byte := a - b - carryIn8 cin

/-- The carry out of a bit of an addition, from that bit of both operands and of the result (R162). -/
def carryOut (a b r : Bool) : Bool := (a && b) || (b && !r) || (!r && a)

/-- The borrow out of the top bit of a subtraction (R163). -/
def borrowOut (a b r : Bool) : Bool := (!a && b) || (b && r) || (r && !a)

/-- The overflow of an addition, from the sign bits (R162). -/
def addOverflow (a b r : Bool) : Bool := (a && b && !r) || (!a && !b && r)

/-- The overflow of a subtraction, from the sign bits (R163). -/
def subOverflow (a b r : Bool) : Bool := (a && !b && !r) || (!a && b && r)

/-- `AddFlags8`: H, N, Z, V, C of `r = Add8(a, b, cin)` (R162). -/
def addFlags8 (a b r : Byte) (f : Ccr) : Ccr :=
  { nz8 r f with
    h := carryOut (a.getLsbD 3) (b.getLsbD 3) (r.getLsbD 3)
    v := addOverflow (a.getLsbD 7) (b.getLsbD 7) (r.getLsbD 7)
    c := carryOut (a.getLsbD 7) (b.getLsbD 7) (r.getLsbD 7) }

/-- `SubFlags8`: N, Z, V, C, not H, of `r = Sub8(a, b, cin)` (R163). -/
def subFlags8 (a b r : Byte) (f : Ccr) : Ccr :=
  { nz8 r f with
    v := subOverflow (a.getLsbD 7) (b.getLsbD 7) (r.getLsbD 7)
    c := borrowOut (a.getLsbD 7) (b.getLsbD 7) (r.getLsbD 7) }

/-- `AddFlags16`: N, Z, V, C, not H, of `r = a + b` (R164). -/
def addFlags16 (a b r : Word) (f : Ccr) : Ccr :=
  { nz16 r f with
    v := addOverflow (a.getLsbD 15) (b.getLsbD 15) (r.getLsbD 15)
    c := carryOut (a.getLsbD 15) (b.getLsbD 15) (r.getLsbD 15) }

/-- `SubFlags16`: N, Z, V, C, not H, of `r = a - b` (R165). -/
def subFlags16 (a b r : Word) (f : Ccr) : Ccr :=
  { nz16 r f with
    v := subOverflow (a.getLsbD 15) (b.getLsbD 15) (r.getLsbD 15)
    c := borrowOut (a.getLsbD 15) (b.getLsbD 15) (r.getLsbD 15) }

/-- The flags of CPX on the M6800: N and V from the high-byte subtraction, with no borrow from the low
bytes; Z from all 16 bits; C unchanged (42_arith_logic.md R266). -/
def cpxFlagsM6800 (x m : Word) (f : Ccr) : Ccr :=
  let rh := hiByte x - hiByte m
  { f with
    n := rh.getLsbD 7
    v := subOverflow (x.getLsbD 15) (m.getLsbD 15) (rh.getLsbD 7)
    z := decide (x = m) }

/-! ## Shifts -/

/-- `ShiftV()`: V is N xor C, after both are written (R168). -/
def shiftV (f : Ccr) : Ccr := { f with v := f.n ^^ f.c }

/-- The flags of an 8-bit shift or rotate: C the bit shifted out, NZ8, ShiftV (43_rmw_shift.md R292 to R296). -/
def shiftFlags8 (out : Bool) (r : Byte) (f : Ccr) : Ccr := shiftV { nz8 r f with c := out }

/-- The flags of a 16-bit shift (43_rmw_shift.md R334, R335). -/
def shiftFlags16 (out : Bool) (r : Word) (f : Ccr) : Ccr := shiftV { nz16 r f with c := out }

/-! ## The operation functions of the read-modify-write family (43_rmw_shift.md section 1)

Each takes the operand and the CCR, and returns the result and the CCR after. -/

/-- `NegOp(m)` (R290). -/
def negOp (m : Byte) (f : Ccr) : Byte × Ccr :=
  let r := 0 - m
  (r, { nz8 r f with v := decide (r = 0x80), c := decide (r ≠ 0) })

/-- `ComOp(m)` (R291). -/
def comOp (m : Byte) (f : Ccr) : Byte × Ccr :=
  let r := 0xFF ^^^ m
  (r, { nz8 r f with v := false, c := true })

/-- `LsrOp(m)`: bit 7 of the result is 0, so NZ8 clears N (R292). -/
def lsrOp (m : Byte) (f : Ccr) : Byte × Ccr :=
  let r := m >>> 1
  (r, shiftV { f with c := m.getLsbD 0, n := false, z := decide (r = 0) })

/-- `RorOp(m)`: the old C enters at bit 7 (R293). -/
def rorOp (m : Byte) (f : Ccr) : Byte × Ccr :=
  let r := (carryIn8 f.c <<< 7) ||| (m >>> 1)
  (r, shiftFlags8 (m.getLsbD 0) r f)

/-- `AsrOp(m)`: bit 7 is kept (R294). -/
def asrOp (m : Byte) (f : Ccr) : Byte × Ccr :=
  let r := (m &&& 0x80) ||| (m >>> 1)
  (r, shiftFlags8 (m.getLsbD 0) r f)

/-- `AslOp(m)` (R295). -/
def aslOp (m : Byte) (f : Ccr) : Byte × Ccr :=
  let r := m <<< 1
  (r, shiftFlags8 (m.getLsbD 7) r f)

/-- `RolOp(m)`: the old C enters at bit 0 (R296). -/
def rolOp (m : Byte) (f : Ccr) : Byte × Ccr :=
  let r := (m <<< 1) ||| carryIn8 f.c
  (r, shiftFlags8 (m.getLsbD 7) r f)

/-- `DecOp(m)` (R297). -/
def decOp (m : Byte) (f : Ccr) : Byte × Ccr :=
  let r := m - 1
  (r, { nz8 r f with v := decide (m = 0x80) })

/-- `IncOp(m)` (R298). -/
def incOp (m : Byte) (f : Ccr) : Byte × Ccr :=
  let r := m + 1
  (r, { nz8 r f with v := decide (m = 0x7F) })

/-- `TstOp(m)`; the result is never written back (R299). -/
def tstOp (m : Byte) (f : Ccr) : Byte × Ccr := (m, { nz8 m f with v := false, c := false })

/-- `ClrOp(m)` (R300). -/
def clrOp (_m : Byte) (f : Ccr) : Byte × Ccr := (0, { f with n := false, z := true, v := false, c := false })

/-! ## Decimal adjust (42_arith_logic.md R261) -/

/-- The correction `cf` of DAA. -/
def daaCorrection (a : Byte) (h c : Bool) : Byte :=
  let lo := a.toNat % 16
  let hi := a.toNat / 16
  (if h ∨ lo > 9 then 0x06 else 0) ||| (if c ∨ hi > 9 ∨ (hi > 8 ∧ lo > 9) then 0x60 else 0)

/-- DAA: the adjusted A and the CCR, V the value drawn (R261, R263). -/
def daaOp (a : Byte) (draw : Bool) (f : Ccr) : Byte × Ccr :=
  let cf := daaCorrection a f.h f.c
  let r := a + cf
  (r, { nz8 r f with c := f.c || decide (cf &&& 0x70 ≠ 0), v := draw })

/-! ## Branch conditions -/

/-- The sixteen conditions of the branch opcodes (R169), by the mnemonic. -/
inductive Cond where
  | ra | rn | hi | ls | cc | cs | ne | eq | vc | vs | pl | mi | ge | lt | gt | le
  deriving DecidableEq, Repr

/-- `Cond(c)` on the current CCR (R169). -/
def condHolds (k : Cond) (f : Ccr) : Bool :=
  match k with
  | .ra => true
  | .rn => false
  | .hi => !(f.c || f.z)
  | .ls => f.c || f.z
  | .cc => !f.c
  | .cs => f.c
  | .ne => !f.z
  | .eq => f.z
  | .vc => !f.v
  | .vs => f.v
  | .pl => !f.n
  | .mi => f.n
  | .ge => !(f.n ^^ f.v)
  | .lt => f.n ^^ f.v
  | .gt => !(f.z || (f.n ^^ f.v))
  | .le => f.z || (f.n ^^ f.v)

end Sys2Proof.Machine
end

