-- ==== Sys2Proof/Machine/Memory.lean ====
section
/-! DEFINITION. Memory: 65,536 byte cells, big-endian 16-bit access, addresses modulo 65,536
(20_memory.md R70 to R76). -/

namespace Sys2Proof.Machine

/-- What an unlisted cell reads as: the image of R476 is all zeros. Log 2. -/
def unlistedByte : Byte := 0x00

/-- The byte of the first entry for a key, else `unlistedByte`. -/
def lookupCell : Memory → Nat → Byte
  | [], _ => unlistedByte
  | (k, v) :: rest, key => if k = key then v else lookupCell rest key

/-- The list without its entries for a key. -/
def eraseCell : Memory → Nat → Memory
  | [], _ => []
  | (k, v) :: rest, key => if k = key then eraseCell rest key else (k, v) :: eraseCell rest key

/-- An entry put before the first larger key. -/
def insertCell : Memory → Nat → Byte → Memory
  | [], key, v => [(key, v)]
  | (k, w) :: rest, key, v => if key < k then (key, v) :: (k, w) :: rest else (k, w) :: insertCell rest key v

/-- Keys are at least `lo`, below 65,536 and strictly rising, and no entry holds `unlistedByte`. -/
def risingFrom : Nat → Memory → Bool
  | _, [] => true
  | lo, (k, v) :: rest => decide (lo ≤ k ∧ k < 65536 ∧ v ≠ unlistedByte) && risingFrom (k + 1) rest

/-- The canonical form: addresses below 65,536, strictly rising, no entry equal to what an unlisted
address reads as. Equal memories are then equal lists. -/
def Memory.wf (m : Memory) : Bool := risingFrom 0 m

/-- `MemRead(a, 1)` (20_memory.md R74). -/
def Memory.read (m : Memory) (a : Word) : Byte := lookupCell m a.toNat

/-- `MemWrite(a, 1, v)` (R75). Writing what an unlisted address reads as removes the entry. -/
def Memory.write (m : Memory) (a : Word) (v : Byte) : Memory :=
  if v = unlistedByte then eraseCell m a.toNat else insertCell (eraseCell m a.toNat) a.toNat v

/-- `MemRead(a, 2)`: the high byte at `a`, the low byte at `a + 1` modulo 65,536 (R73, R74). -/
def Memory.read16 (m : Memory) (a : Word) : Word := joinBytes (m.read a) (m.read (a + 1))

/-- `MemWrite(a, 2, v)`: `v[15:8]` at `a`, `v[7:0]` at `a + 1` modulo 65,536 (R73, R75). -/
def Memory.write16 (m : Memory) (a : Word) (v : Word) : Memory := (m.write a (hiByte v)).write (a + 1) (loByte v)

/-- The cells of consecutive bytes from an address up, canonical. -/
def cellsFrom : Nat → List Byte → Memory
  | _, [] => []
  | k, v :: rest => if v = unlistedByte then cellsFrom (k + 1) rest else (k, v) :: cellsFrom (k + 1) rest

/-- The memory of a 65,536-byte image (10_state.md R59). -/
def Memory.ofImage (img : Vector Byte 65536) : Memory := cellsFrom 0 img.toList

end Sys2Proof.Machine
end

