-- ==== Sys2Proof/Machine/Ops.lean ====
section
/-! DEFINITION. The named operations over the registers, the stack and the vectors: register views
(10_state.md R34, R35), push and pull (20_memory.md R78 to R80), the context frame
(60_exceptions.md R432), taking an exception and returning from one. -/

namespace Sys2Proof.Machine

/-! ## Field updates -/

def State.setPc (s : State) (v : Word) : State := { s with pc := v }
def State.setSp (s : State) (v : Word) : State := { s with sp := v }
def State.setA (s : State) (v : Byte) : State := { s with a := v }
def State.setB (s : State) (v : Byte) : State := { s with b := v }
def State.setCcr (s : State) (v : Ccr) : State := { s with ccr := v }
def State.setMem (s : State) (v : Memory) : State := { s with mem := v }
def State.setWai (s : State) (v : Bool) : State := { s with wai := v }
def State.setPending (s : State) (v : Pending) : State := { s with pending := v }
def State.setCycles (s : State) (cycle curCycles : Nat) : State := { s with cycle := cycle, curCycles := curCycles }
def State.setDraws (s : State) (v : Nat) : State := { s with draws := v }

/-- `PC <- PC + len`, modulo 65,536 (40_decode_dispatch.md R150). -/
def State.advance (s : State) (len : Nat) : State := s.setPc (s.pc + BitVec.ofNat 16 len)

/-! ## Register views -/

/-- The two accumulators. -/
inductive Acc where
  | a
  | b
  deriving DecidableEq, Repr

/-- An accumulator's value (10_state.md R32). -/
def State.acc (s : State) : Acc → Byte
  | .a => s.a
  | .b => s.b

/-- Writes an accumulator. -/
def State.setAcc (s : State) : Acc → Byte → State
  | .a, v => s.setA v
  | .b, v => s.setB v

/-- `IX`, the active index register (10_state.md R34). -/
def State.ix (s : State) : Word :=
  match s.curIndReg with
  | .x => s.x
  | .x2 => s.x2

/-- Writes the active index register (R34). -/
def State.setIx (s : State) (v : Word) : State :=
  match s.curIndReg with
  | .x => { s with x := v }
  | .x2 => { s with x2 := v }

/-- `D`, the view A:B (10_state.md R35). -/
def State.d (s : State) : Word := joinBytes s.a s.b

/-- Writes D: A gets bits 15:8, B bits 7:0 (R35). -/
def State.setD (s : State) (v : Word) : State := (s.setA (hiByte v)).setB (loByte v)

/-! ## Memory and stack -/

/-- `MemWrite(a, 1, v)` (20_memory.md R75). -/
def State.store8 (s : State) (a : Word) (v : Byte) : State := s.setMem (s.mem.write a v)

/-- `MemWrite(a, 2, v)` (R75). -/
def State.store16 (s : State) (a : Word) (v : Word) : State := s.setMem (s.mem.write16 a v)

/-- `Push8(v)`: write at SP, then decrement SP (R78). -/
def push8 (v : Byte) (s : State) : State := (s.store8 s.sp v).setSp (s.sp - 1)

/-- `Pull8()`: increment SP, then read at SP (R79). -/
def pull8 (s : State) : Byte × State :=
  let s1 := s.setSp (s.sp + 1)
  (s1.mem.read s1.sp, s1)

/-- `Push16(v)`: low byte first (R80). -/
def push16 (v : Word) (s : State) : State := push8 (hiByte v) (push8 (loByte v) s)

/-- `Pull16()`: high byte first (R80). -/
def pull16 (s : State) : Word × State :=
  let (hi, s1) := pull8 s
  let (lo, s2) := pull8 s1
  (joinBytes hi lo, s2)

/-! ## Exceptions -/

/-- `VectorFetch(i) = MemRead(0xFFFE - 2*i, 2)` (20_memory.md R84). -/
def vectorFetch (m : Memory) (i : Nat) : Word := m.read16 (0xFFFE - BitVec.ofNat 16 (2 * i))

/-- The vector index of a request (60_exceptions.md R433). -/
def Request.index : Request → Nat
  | .rst => 0
  | .nmi => 1
  | .irq => 3

/-- The vector index of SWI (60_exceptions.md R421). -/
def swiIndex : Nat := 2

/-- `PushContext(ret)`: the return address, IX, A, B and the CCR, seven bytes (60_exceptions.md R432). -/
def pushContext (ret : Word) (s : State) : State :=
  push8 (ccrByte s.ccr) (push8 s.b (push8 s.a (push16 s.ix (push16 ret s))))

/-- `PullContext()`: the return from every exception (R432, R435). -/
def pullContext (s : State) : State :=
  let (f, s1) := pull8 s
  let s1 := s1.setCcr (ccrOfByte f)
  let (b, s2) := pull8 s1
  let s2 := s2.setB b
  let (a, s3) := pull8 s2
  let s3 := s3.setA a
  let (x, s4) := pull16 s3
  let s4 := s4.setIx x
  let (pc, s5) := pull16 s4
  s5.setPc pc

/-- Taking an exception: push the context with return address `ret` unless it is already on the stack, set
I, and load PC from the vector, read after the push (60_exceptions.md R421, R433; 45_ccr_system.md R390). -/
def takeException (index : Nat) (ret : Word) (stacked : Bool) (s : State) : State :=
  let s1 := if stacked then s else pushContext ret s
  (s1.setCcr { s1.ccr with i := true }).setPc (vectorFetch s1.mem index)

/-- `Service(k)`: the entry of an asynchronous request; nothing is pushed while parked by WAI
(60_exceptions.md R433). -/
def service (k : Request) (s : State) : State := (takeException k.index s.pc s.wai s).setWai false

end Sys2Proof.Machine
end

