-- ==== Sys2Proof/Syntax.lean ====
section
/-! DEFINITION. The instructions: one constructor per mnemonic of opcode_table.json, the operand form
an argument (log 1). -/

namespace Sys2Proof

/-- A memory operand: Direct, Indexed or Extended (30_encoding.md R105 to R107). -/
inductive MemOperand where
  /-- DIR: the low byte of an address in 0x0000 to 0x00FF (R105). -/
  | dir (addr : Byte)
  /-- IND: an unsigned offset added to the active index register (R106). -/
  | ind (off : Byte)
  /-- EXT: a full address (R107). -/
  | ext (addr : Word)
  deriving DecidableEq, Repr

/-- A memory operand of an instruction that has no Direct form: the read-modify-write family and JMP
(30_encoding.md R111). -/
inductive IndExt where
  /-- IND (R106). -/
  | ind (off : Byte)
  /-- EXT (R107). -/
  | ext (addr : Word)
  deriving DecidableEq, Repr

/-- An 8-bit source operand: IMM8 or memory (30_encoding.md R103, R112). -/
inductive Operand8 where
  /-- IMM8 (R103). -/
  | imm (v : Byte)
  /-- DIR, IND or EXT. -/
  | mem (m : MemOperand)
  deriving DecidableEq, Repr

/-- A 16-bit source operand: IMM16 or memory (30_encoding.md R104, R112). -/
inductive Operand16 where
  /-- IMM16 (R104). -/
  | imm (v : Word)
  /-- DIR, IND or EXT. -/
  | mem (m : MemOperand)
  deriving DecidableEq, Repr

/-- The instructions. `invalid op` is the `(invalid)` row of an opcode byte the current variant does not
support (45_ccr_system.md R395). -/
inductive Instr where
  -- Loads, stores, transfers and stack operations (41_load_store_transfer.md)
  /-- LDAA: load accumulator A (R200) -/
  | ldaa (o : Operand8)
  /-- LDAB: load accumulator B (R201) -/
  | ldab (o : Operand8)
  /-- STAA: store accumulator A (R202) -/
  | staa (m : MemOperand)
  /-- STAB: store accumulator B (R203) -/
  | stab (m : MemOperand)
  /-- LDS: load stack pointer (R204) -/
  | lds (o : Operand16)
  /-- LDX: load index register (R205) -/
  | ldx (o : Operand16)
  /-- STS: store stack pointer (R206) -/
  | sts (m : MemOperand)
  /-- STX: store index register (R207) -/
  | stx (m : MemOperand)
  /-- LDD (M6803 only): load the accumulator pair D = A:B (R208) -/
  | ldd (o : Operand16)
  /-- STD (M6803 only): store the accumulator pair D = A:B (R209) -/
  | std (m : MemOperand)
  /-- TAB: transfer A to B (R210) -/
  | tab
  /-- TBA: transfer B to A (R211) -/
  | tba
  /-- TAP: transfer A to the condition code register (R212) -/
  | tap
  /-- TPA: transfer the condition code register to A (R213) -/
  | tpa
  /-- TSX: transfer the stack pointer to the index register (R214) -/
  | tsx
  /-- TXS: transfer the index register to the stack pointer (R215) -/
  | txs
  /-- PSHA: push A (R216) -/
  | psha
  /-- PSHB: push B (R217) -/
  | pshb
  /-- PULA: pull A (R218) -/
  | pula
  /-- PULB: pull B (R219) -/
  | pulb
  /-- PSHX (M6803 only): push the index register (R220) -/
  | pshx
  /-- PULX (M6803 only): pull the index register (R221) -/
  | pulx
  -- Arithmetic, logic and compare (42_arith_logic.md)
  /-- ADDA: add to A (R240) -/
  | adda (o : Operand8)
  /-- ADDB: add to B (R241) -/
  | addb (o : Operand8)
  /-- ADCA: add with carry to A (R242) -/
  | adca (o : Operand8)
  /-- ADCB: add with carry to B (R243) -/
  | adcb (o : Operand8)
  /-- SUBA: subtract from A (R244) -/
  | suba (o : Operand8)
  /-- SUBB: subtract from B (R245) -/
  | subb (o : Operand8)
  /-- SBCA: subtract with borrow from A (R246) -/
  | sbca (o : Operand8)
  /-- SBCB: subtract with borrow from B (R247) -/
  | sbcb (o : Operand8)
  /-- CMPA: compare A with memory (R248) -/
  | cmpa (o : Operand8)
  /-- CMPB: compare B with memory (R249) -/
  | cmpb (o : Operand8)
  /-- ANDA: and into A (R250) -/
  | anda (o : Operand8)
  /-- ANDB: and into B (R251) -/
  | andb (o : Operand8)
  /-- BITA: bit test A (R252) -/
  | bita (o : Operand8)
  /-- BITB: bit test B (R253) -/
  | bitb (o : Operand8)
  /-- EORA: exclusive-or into A (R254) -/
  | eora (o : Operand8)
  /-- EORB: exclusive-or into B (R255) -/
  | eorb (o : Operand8)
  /-- ORAA: inclusive-or into A (R256) -/
  | oraa (o : Operand8)
  /-- ORAB: inclusive-or into B (R257) -/
  | orab (o : Operand8)
  /-- ABA: add B to A (R258) -/
  | aba
  /-- SBA: subtract B from A (R259) -/
  | sba
  /-- CBA: compare A with B (R260) -/
  | cba
  /-- DAA: decimal adjust A after a BCD addition (R261) -/
  | daa
  /-- ADDD (M6803 only): add a 16-bit operand to D (R264) -/
  | addd (o : Operand16)
  /-- SUBD (M6803 only): subtract a 16-bit operand from D (R265) -/
  | subd (o : Operand16)
  /-- CPX: compare the index register with a 16-bit operand. Its flags differ by variant (30_encoding.md rule R119) (R266) -/
  | cpx (o : Operand16)
  /-- MUL (M6803 only): unsigned multiply A by B into D (R267) -/
  | mul
  /-- INX: increment the index register (R268) -/
  | inx
  /-- DEX: decrement the index register (R269) -/
  | dex
  /-- INS: increment the stack pointer (R270) -/
  | ins
  /-- DES: decrement the stack pointer (R271) -/
  | des
  /-- ABX (M6803 only): add B to the index register (R272) -/
  | abx
  -- Read-modify-write, shift and rotate (43_rmw_shift.md)
  /-- NEGA: two's-complement negate on A (R301) -/
  | nega
  /-- NEGB: two's-complement negate on B (R302) -/
  | negb
  /-- NEG: two's-complement negate on memory (R303) -/
  | neg (m : IndExt)
  /-- COMA: one's complement on A (R304) -/
  | coma
  /-- COMB: one's complement on B (R305) -/
  | comb
  /-- COM: one's complement on memory (R306) -/
  | com (m : IndExt)
  /-- LSRA: logical shift right on A (R307) -/
  | lsra
  /-- LSRB: logical shift right on B (R308) -/
  | lsrb
  /-- LSR: logical shift right on memory (R309) -/
  | lsr (m : IndExt)
  /-- RORA: rotate right through carry on A (R310) -/
  | rora
  /-- RORB: rotate right through carry on B (R311) -/
  | rorb
  /-- ROR: rotate right through carry on memory (R312) -/
  | ror (m : IndExt)
  /-- ASRA: arithmetic shift right on A (R313) -/
  | asra
  /-- ASRB: arithmetic shift right on B (R314) -/
  | asrb
  /-- ASR: arithmetic shift right on memory (R315) -/
  | asr (m : IndExt)
  /-- ASLA (alias LSLA): arithmetic shift left on A (R316) -/
  | asla
  /-- ASLB (alias LSLB): arithmetic shift left on B (R317) -/
  | aslb
  /-- ASL (alias LSL): arithmetic shift left on memory (R318) -/
  | asl (m : IndExt)
  /-- ROLA: rotate left through carry on A (R319) -/
  | rola
  /-- ROLB: rotate left through carry on B (R320) -/
  | rolb
  /-- ROL: rotate left through carry on memory (R321) -/
  | rol (m : IndExt)
  /-- DECA: decrement on A (R322) -/
  | deca
  /-- DECB: decrement on B (R323) -/
  | decb
  /-- DEC: decrement on memory (R324) -/
  | dec (m : IndExt)
  /-- INCA: increment on A (R325) -/
  | inca
  /-- INCB: increment on B (R326) -/
  | incb
  /-- INC: increment on memory (R327) -/
  | inc (m : IndExt)
  /-- TSTA: test against zero on A (R328) -/
  | tsta
  /-- TSTB: test against zero on B (R329) -/
  | tstb
  /-- TST: test against zero on memory (R330) -/
  | tst (m : IndExt)
  /-- CLRA: clear on A (R331) -/
  | clra
  /-- CLRB: clear on B (R332) -/
  | clrb
  /-- CLR: clear on memory (R333) -/
  | clr (m : IndExt)
  /-- ASLD (alias LSLD, M6803 only): arithmetic shift left of D (R334) -/
  | asld
  /-- LSRD (M6803 only): logical shift right of D (R335) -/
  | lsrd
  -- Control flow (44_control_flow.md)
  /-- BRA: branch always (R341) -/
  | bra (rel : Byte)
  /-- BRN: branch never (M6803 only) (R342) -/
  | brn (rel : Byte)
  /-- BHI: branch if higher (unsigned >) (R343) -/
  | bhi (rel : Byte)
  /-- BLS: branch if lower or same (unsigned ≤) (R344) -/
  | bls (rel : Byte)
  /-- BCC: branch if carry clear (alias BHS) (R345) -/
  | bcc (rel : Byte)
  /-- BCS: branch if carry set (alias BLO) (R346) -/
  | bcs (rel : Byte)
  /-- BNE: branch if not equal (R347) -/
  | bne (rel : Byte)
  /-- BEQ: branch if equal (R348) -/
  | beq (rel : Byte)
  /-- BVC: branch if overflow clear (R349) -/
  | bvc (rel : Byte)
  /-- BVS: branch if overflow set (R350) -/
  | bvs (rel : Byte)
  /-- BPL: branch if plus (R351) -/
  | bpl (rel : Byte)
  /-- BMI: branch if minus (R352) -/
  | bmi (rel : Byte)
  /-- BGE: branch if greater or equal (signed ≥) (R353) -/
  | bge (rel : Byte)
  /-- BLT: branch if less than (signed <) (R354) -/
  | blt (rel : Byte)
  /-- BGT: branch if greater than (signed >) (R355) -/
  | bgt (rel : Byte)
  /-- BLE: branch if less or equal (signed ≤) (R356) -/
  | ble (rel : Byte)
  /-- BSR: branch to subroutine (R357) -/
  | bsr (rel : Byte)
  /-- JMP: jump (R358) -/
  | jmp (m : IndExt)
  /-- JSR: jump to subroutine (R359) -/
  | jsr (m : MemOperand)
  /-- RTS: return from subroutine (R360) -/
  | rts
  -- Condition-code and system instructions, INVALID opcodes (45_ccr_system.md)
  /-- CLC: clear carry (R380) -/
  | clc
  /-- SEC: set carry (R381) -/
  | sec
  /-- CLV: clear overflow (R382) -/
  | clv
  /-- SEV: set overflow (R383) -/
  | sev
  /-- CLI: clear interrupt mask (R384) -/
  | cli
  /-- SEI: set interrupt mask (R385) -/
  | sei
  /-- NOP: no operation (R386) -/
  | nop
  /-- SWI: software interrupt (R390) -/
  | swi
  /-- WAI: wait for interrupt (R391) -/
  | wai
  /-- RTI: return from interrupt (R392) -/
  | rti
  /-- an opcode byte whose mode is INVALID (R395, 30_encoding.md R115, R116) -/
  | invalid (op : Byte)
  deriving DecidableEq, Repr

end Sys2Proof
end

