-- ==== Sys2Proof/Machine/Operands.lean ====
section
/-! DEFINITION. Operand fetch and effective addresses (40_decode_dispatch.md R141 to R147, R153). The operand
bytes themselves are fields of the instruction, fetched by the decoder before any write (20_memory.md R90). -/

namespace Sys2Proof.Machine

/-- `EA(m)` (R144 DIR, R145 IND with the unsigned offset on the active index register, R146 EXT). -/
def ea (m : MemOperand) (s : State) : Word :=
  match m with
  | .dir d => zext16 d
  | .ind d => s.ix + zext16 d
  | .ext w => w

/-- The length of an instruction with a memory operand (R153). -/
def memLen : MemOperand → Nat
  | .dir _ => 2
  | .ind _ => 2
  | .ext _ => 3

/-- The memory operand of an IND or EXT form. -/
def indExtMem : IndExt → MemOperand
  | .ind d => .ind d
  | .ext w => .ext w

/-- `Op8(m)` (R153). -/
def op8 (o : Operand8) (s : State) : Byte :=
  match o with
  | .imm v => v
  | .mem m => s.mem.read (ea m s)

/-- The length of an instruction with an 8-bit source operand (R153). -/
def len8 : Operand8 → Nat
  | .imm _ => 2
  | .mem m => memLen m

/-- `Op16(m)` (R153). -/
def op16 (o : Operand16) (s : State) : Word :=
  match o with
  | .imm v => v
  | .mem m => s.mem.read16 (ea m s)

/-- The length of an instruction with a 16-bit source operand (R153). -/
def len16 : Operand16 → Nat
  | .imm _ => 3
  | .mem m => memLen m

/-- `target = PC + 2 + sext_16(rel)`, PC the address of the opcode (R147). -/
def relTarget (rel : Byte) (s : State) : Word := s.pc + 2 + sext16 rel

end Sys2Proof.Machine
end

