-- ==== Sys2Proof/Machine/Arith.lean ====
section
/-! DEFINITION. Arithmetic, logic and compare (42_arith_logic.md R240 to R272). -/

namespace Sys2Proof.Machine

/-! ## Shared operations

`r` is the accumulator, `m` the operand byte, `len` the instruction's length. -/

/-- `r <- Add8(r, m, cin)` (R240 to R243, R258). -/
def addAcc (r : Acc) (m : Byte) (cin : Bool) (len : Nat) (s : State) : State :=
  let sum := add8 (s.acc r) m cin
  ((s.setAcc r sum).setCcr (addFlags8 (s.acc r) m sum s.ccr)).advance len

/-- `r <- Sub8(r, m, cin)` (R244 to R247, R259). -/
def subAcc (r : Acc) (m : Byte) (cin : Bool) (len : Nat) (s : State) : State :=
  let dif := sub8 (s.acc r) m cin
  ((s.setAcc r dif).setCcr (subFlags8 (s.acc r) m dif s.ccr)).advance len

/-- `Sub8(r, m, 0)` with the result discarded (R248, R249, R260). -/
def cmpAcc (r : Acc) (m : Byte) (len : Nat) (s : State) : State :=
  (s.setCcr (subFlags8 (s.acc r) m (sub8 (s.acc r) m false) s.ccr)).advance len

/-- A logic operation into the accumulator, with the flags of Logic8 (R250, R251, R254 to R257). -/
def logicAcc (op : Byte → Byte → Byte) (r : Acc) (m : Byte) (len : Nat) (s : State) : State :=
  let res := op (s.acc r) m
  ((s.setAcc r res).setCcr (logic8 res s.ccr)).advance len

/-- The flags of `r & m`, the accumulator unchanged (R252, R253). -/
def bitAcc (r : Acc) (m : Byte) (len : Nat) (s : State) : State :=
  (s.setCcr (logic8 (s.acc r &&& m) s.ccr)).advance len

/-- The index register written, Z from it (R268, R269). -/
def stepIx (v : Word) (s : State) : State :=
  ((s.setIx v).setCcr { s.ccr with z := decide (v = 0) }).advance 1

/-! ## Meanings -/

/-- ADDA: add to A (R240). -/
def execAdda (o : Operand8) (s : State) : Result := .next (addAcc .a (op8 o s) false (len8 o) s)

/-- ADDB: add to B (R241). -/
def execAddb (o : Operand8) (s : State) : Result := .next (addAcc .b (op8 o s) false (len8 o) s)

/-- ADCA: add with carry to A (R242). -/
def execAdca (o : Operand8) (s : State) : Result := .next (addAcc .a (op8 o s) s.ccr.c (len8 o) s)

/-- ADCB: add with carry to B (R243). -/
def execAdcb (o : Operand8) (s : State) : Result := .next (addAcc .b (op8 o s) s.ccr.c (len8 o) s)

/-- SUBA: subtract from A (R244). -/
def execSuba (o : Operand8) (s : State) : Result := .next (subAcc .a (op8 o s) false (len8 o) s)

/-- SUBB: subtract from B (R245). -/
def execSubb (o : Operand8) (s : State) : Result := .next (subAcc .b (op8 o s) false (len8 o) s)

/-- SBCA: subtract with borrow from A (R246). -/
def execSbca (o : Operand8) (s : State) : Result := .next (subAcc .a (op8 o s) s.ccr.c (len8 o) s)

/-- SBCB: subtract with borrow from B (R247). -/
def execSbcb (o : Operand8) (s : State) : Result := .next (subAcc .b (op8 o s) s.ccr.c (len8 o) s)

/-- CMPA: compare A with memory (R248). -/
def execCmpa (o : Operand8) (s : State) : Result := .next (cmpAcc .a (op8 o s) (len8 o) s)

/-- CMPB: compare B with memory (R249). -/
def execCmpb (o : Operand8) (s : State) : Result := .next (cmpAcc .b (op8 o s) (len8 o) s)

/-- ANDA: and into A (R250). -/
def execAnda (o : Operand8) (s : State) : Result :=
  .next (logicAcc (· &&& ·) .a (op8 o s) (len8 o) s)

/-- ANDB: and into B (R251). -/
def execAndb (o : Operand8) (s : State) : Result :=
  .next (logicAcc (· &&& ·) .b (op8 o s) (len8 o) s)

/-- BITA: bit test A (R252). -/
def execBita (o : Operand8) (s : State) : Result := .next (bitAcc .a (op8 o s) (len8 o) s)

/-- BITB: bit test B (R253). -/
def execBitb (o : Operand8) (s : State) : Result := .next (bitAcc .b (op8 o s) (len8 o) s)

/-- EORA: exclusive-or into A (R254). -/
def execEora (o : Operand8) (s : State) : Result :=
  .next (logicAcc (· ^^^ ·) .a (op8 o s) (len8 o) s)

/-- EORB: exclusive-or into B (R255). -/
def execEorb (o : Operand8) (s : State) : Result :=
  .next (logicAcc (· ^^^ ·) .b (op8 o s) (len8 o) s)

/-- ORAA: inclusive-or into A (R256). -/
def execOraa (o : Operand8) (s : State) : Result :=
  .next (logicAcc (· ||| ·) .a (op8 o s) (len8 o) s)

/-- ORAB: inclusive-or into B (R257). -/
def execOrab (o : Operand8) (s : State) : Result :=
  .next (logicAcc (· ||| ·) .b (op8 o s) (len8 o) s)

/-- ABA: add B to A (R258). -/
def execAba (s : State) : Result := .next (addAcc .a s.b false 1 s)

/-- SBA: subtract B from A (R259). -/
def execSba (s : State) : Result := .next (subAcc .a s.b false 1 s)

/-- CBA: compare A with B (R260). -/
def execCba (s : State) : Result := .next (cmpAcc .a s.b 1 s)

/-- DAA: decimal adjust A after a BCD addition (R261). V is a draw (R263, log 8). -/
def execDaa (s : State) : Result :=
  let (r, f) := daaOp s.a (Config.daaV s.draws) s.ccr
  .next ((((s.setA r).setCcr f).setDraws (s.draws + 1)).advance 1)

/-- ADDD (M6803 only): add a 16-bit operand to D (R264). -/
def execAddd (o : Operand16) (s : State) : Result :=
  .next (((s.setD (s.d + op16 o s)).setCcr (addFlags16 s.d (op16 o s) (s.d + op16 o s) s.ccr)).advance (len16 o))

/-- SUBD (M6803 only): subtract a 16-bit operand from D (R265). -/
def execSubd (o : Operand16) (s : State) : Result :=
  .next (((s.setD (s.d - op16 o s)).setCcr (subFlags16 s.d (op16 o s) (s.d - op16 o s) s.ccr)).advance (len16 o))

/-- CPX: compare the index register with a 16-bit operand; the flags differ by variant (R266,
30_encoding.md R119). -/
def execCpx (o : Operand16) (s : State) : Result :=
  let v := op16 o s
  let f := match s.cfg.variant with
    | .m6800 => cpxFlagsM6800 s.ix v s.ccr
    | .m6803 => subFlags16 s.ix v (s.ix - v) s.ccr
  .next ((s.setCcr f).advance (len16 o))

/-- MUL (M6803 only): unsigned multiply A by B into D; C is bit 7 of the product (R267). -/
def execMul (s : State) : Result :=
  let p := zext16 s.a * zext16 s.b
  .next (((s.setD p).setCcr { s.ccr with c := p.getLsbD 7 }).advance 1)

/-- INX: increment the index register (R268). -/
def execInx (s : State) : Result := .next (stepIx (s.ix + 1) s)

/-- DEX: decrement the index register (R269). -/
def execDex (s : State) : Result := .next (stepIx (s.ix - 1) s)

/-- INS: increment the stack pointer (R270). -/
def execIns (s : State) : Result := .next ((s.setSp (s.sp + 1)).advance 1)

/-- DES: decrement the stack pointer (R271). -/
def execDes (s : State) : Result := .next ((s.setSp (s.sp - 1)).advance 1)

/-- ABX (M6803 only): add B to the index register (R272). -/
def execAbx (s : State) : Result := .next ((s.setIx (s.ix + zext16 s.b)).advance 1)

end Sys2Proof.Machine
end

