-- ==== Sys2Proof/Machine/Control.lean ====
section
/-! DEFINITION. Control flow (44_control_flow.md R340 to R360). -/

namespace Sys2Proof.Machine

/-- `Branch(c)`: the target when the condition holds, else the next instruction (R340). -/
def branch (k : Cond) (rel : Byte) (s : State) : State :=
  if condHolds k s.ccr then s.setPc (relTarget rel s) else s.advance 2

/-- BRA: branch always (R341). -/
def execBra (rel : Byte) (s : State) : Result := .next (branch .ra rel s)

/-- BRN: branch never (M6803 only) (R342). -/
def execBrn (rel : Byte) (s : State) : Result := .next (branch .rn rel s)

/-- BHI: branch if higher (unsigned >) (R343). -/
def execBhi (rel : Byte) (s : State) : Result := .next (branch .hi rel s)

/-- BLS: branch if lower or same (unsigned ≤) (R344). -/
def execBls (rel : Byte) (s : State) : Result := .next (branch .ls rel s)

/-- BCC: branch if carry clear (alias BHS) (R345). -/
def execBcc (rel : Byte) (s : State) : Result := .next (branch .cc rel s)

/-- BCS: branch if carry set (alias BLO) (R346). -/
def execBcs (rel : Byte) (s : State) : Result := .next (branch .cs rel s)

/-- BNE: branch if not equal (R347). -/
def execBne (rel : Byte) (s : State) : Result := .next (branch .ne rel s)

/-- BEQ: branch if equal (R348). -/
def execBeq (rel : Byte) (s : State) : Result := .next (branch .eq rel s)

/-- BVC: branch if overflow clear (R349). -/
def execBvc (rel : Byte) (s : State) : Result := .next (branch .vc rel s)

/-- BVS: branch if overflow set (R350). -/
def execBvs (rel : Byte) (s : State) : Result := .next (branch .vs rel s)

/-- BPL: branch if plus (R351). -/
def execBpl (rel : Byte) (s : State) : Result := .next (branch .pl rel s)

/-- BMI: branch if minus (R352). -/
def execBmi (rel : Byte) (s : State) : Result := .next (branch .mi rel s)

/-- BGE: branch if greater or equal (signed ≥) (R353). -/
def execBge (rel : Byte) (s : State) : Result := .next (branch .ge rel s)

/-- BLT: branch if less than (signed <) (R354). -/
def execBlt (rel : Byte) (s : State) : Result := .next (branch .lt rel s)

/-- BGT: branch if greater than (signed >) (R355). -/
def execBgt (rel : Byte) (s : State) : Result := .next (branch .gt rel s)

/-- BLE: branch if less or equal (signed ≤) (R356). -/
def execBle (rel : Byte) (s : State) : Result := .next (branch .le rel s)

/-- BSR: branch to subroutine (R357). -/
def execBsr (rel : Byte) (s : State) : Result :=
  let ret := s.pc + 2
  .next ((push16 ret s).setPc (ret + sext16 rel))

/-- JMP: jump; the effective address is the target, and no operand is read (R358). -/
def execJmp (m : IndExt) (s : State) : Result := .next (s.setPc (ea (indExtMem m) s))

/-- JSR: jump to subroutine; the target is computed before the push (R359). -/
def execJsr (m : MemOperand) (s : State) : Result :=
  let target := ea m s
  .next ((push16 (s.pc + BitVec.ofNat 16 (memLen m)) s).setPc target)

/-- RTS: return from subroutine (R360). -/
def execRts (s : State) : Result :=
  let (pc, s1) := pull16 s
  .next (s1.setPc pc)

end Sys2Proof.Machine
end

