-- ==== Sys2Proof/Machine/LoadStore.lean ====
section
/-! DEFINITION. Loads, stores, transfers and stack operations (41_load_store_transfer.md R200 to R221). -/

namespace Sys2Proof.Machine

/-! ## Shared operations -/

/-- The operation of LDAA and LDAB: `v <- Op8(m); r <- v; Move8(v)` (R200, R201). -/
def loadAcc (r : Acc) (o : Operand8) (s : State) : State :=
  let v := op8 o s
  ((s.setAcc r v).setCcr (logic8 v s.ccr)).advance (len8 o)

/-- The operation of STAA and STAB (R202, R203). -/
def storeAcc (r : Acc) (m : MemOperand) (s : State) : State :=
  ((s.store8 (ea m s) (s.acc r)).setCcr (logic8 (s.acc r) s.ccr)).advance (memLen m)

/-- The operation of STS, STX and STD on the 16-bit value stored (R206, R207, R209). -/
def storeWord (v : Word) (m : MemOperand) (s : State) : State :=
  ((s.store16 (ea m s) v).setCcr (move16 v s.ccr)).advance (memLen m)

/-- `Push8` of an accumulator (R216, R217). -/
def pushAcc (r : Acc) (s : State) : State := (push8 (s.acc r) s).advance 1

/-- `Pull8` into an accumulator (R218, R219). -/
def pullAcc (r : Acc) (s : State) : State :=
  let (v, s1) := pull8 s
  (s1.setAcc r v).advance 1

/-- An accumulator copied to the other, with the flags of Move8 (R210, R211). -/
def transferAcc (src dst : Acc) (s : State) : State :=
  ((s.setAcc dst (s.acc src)).setCcr (logic8 (s.acc src) s.ccr)).advance 1

/-! ## Meanings -/

/-- LDAA: load accumulator A (R200). -/
def execLdaa (o : Operand8) (s : State) : Result := .next (loadAcc .a o s)

/-- LDAB: load accumulator B (R201). -/
def execLdab (o : Operand8) (s : State) : Result := .next (loadAcc .b o s)

/-- STAA: store accumulator A (R202). -/
def execStaa (m : MemOperand) (s : State) : Result := .next (storeAcc .a m s)

/-- STAB: store accumulator B (R203). -/
def execStab (m : MemOperand) (s : State) : Result := .next (storeAcc .b m s)

/-- LDS: load stack pointer (R204). -/
def execLds (o : Operand16) (s : State) : Result :=
  .next (((s.setSp (op16 o s)).setCcr (move16 (op16 o s) s.ccr)).advance (len16 o))

/-- LDX: load index register; EA from the old X (R205). -/
def execLdx (o : Operand16) (s : State) : Result :=
  .next (((s.setIx (op16 o s)).setCcr (move16 (op16 o s) s.ccr)).advance (len16 o))

/-- STS: store stack pointer (R206). -/
def execSts (m : MemOperand) (s : State) : Result := .next (storeWord s.sp m s)

/-- STX: store index register (R207). -/
def execStx (m : MemOperand) (s : State) : Result := .next (storeWord s.ix m s)

/-- LDD (M6803 only): load the accumulator pair D = A:B (R208). -/
def execLdd (o : Operand16) (s : State) : Result :=
  .next (((s.setD (op16 o s)).setCcr (move16 (op16 o s) s.ccr)).advance (len16 o))

/-- STD (M6803 only): store the accumulator pair D = A:B (R209). -/
def execStd (m : MemOperand) (s : State) : Result := .next (storeWord s.d m s)

/-- TAB: transfer A to B (R210). -/
def execTab (s : State) : Result := .next (transferAcc .a .b s)

/-- TBA: transfer B to A (R211). -/
def execTba (s : State) : Result := .next (transferAcc .b .a s)

/-- TAP: transfer A to the condition code register (R212). -/
def execTap (s : State) : Result := .next ((s.setCcr (ccrOfByte s.a)).advance 1)

/-- TPA: transfer the condition code register to A (R213). -/
def execTpa (s : State) : Result := .next ((s.setA (ccrByte s.ccr)).advance 1)

/-- TSX: transfer the stack pointer to the index register (R214). -/
def execTsx (s : State) : Result := .next ((s.setIx (s.sp + 1)).advance 1)

/-- TXS: transfer the index register to the stack pointer (R215). -/
def execTxs (s : State) : Result := .next ((s.setSp (s.ix - 1)).advance 1)

/-- PSHA: push A (R216). -/
def execPsha (s : State) : Result := .next (pushAcc .a s)

/-- PSHB: push B (R217). -/
def execPshb (s : State) : Result := .next (pushAcc .b s)

/-- PULA: pull A (R218). -/
def execPula (s : State) : Result := .next (pullAcc .a s)

/-- PULB: pull B (R219). -/
def execPulb (s : State) : Result := .next (pullAcc .b s)

/-- PSHX (M6803 only): push the index register (R220). -/
def execPshx (s : State) : Result := .next ((push16 s.ix s).advance 1)

/-- PULX (M6803 only): pull the index register (R221). -/
def execPulx (s : State) : Result := .next (((pull16 s).2.setIx (pull16 s).1).advance 1)

end Sys2Proof.Machine
end

