-- ==== Sys2Proof/Machine/Rmw.lean ====
section
/-! DEFINITION. Read-modify-write, shift and rotate (43_rmw_shift.md R301 to R335). The operation functions
R290 to R300 are in Machine/Flags.lean. -/

namespace Sys2Proof.Machine

/-! ## Shared forms (section 2) -/

/-- The forms OPA and OPB: `r <- OpFn(r)`. -/
def rmwAcc (op : Byte → Ccr → Byte × Ccr) (r : Acc) (s : State) : State :=
  let (v, f) := op (s.acc r) s.ccr
  ((s.setAcc r v).setCcr f).advance 1

/-- The memory form: read at EA, operate, write at EA. -/
def rmwMem (op : Byte → Ccr → Byte × Ccr) (m : IndExt) (s : State) : State :=
  let addr := ea (indExtMem m) s
  let (v, f) := op (s.mem.read addr) s.ccr
  ((s.store8 addr v).setCcr f).advance (memLen (indExtMem m))

/-- The 16-bit shifts on D (section 4). -/
def shiftD (r : Word) (out : Bool) (s : State) : State :=
  ((s.setD r).setCcr (shiftFlags16 out r s.ccr)).advance 1

/-! ## Meanings -/

/-- NEGA: two's-complement negate on A (R301). -/
def execNega (s : State) : Result := .next (rmwAcc negOp .a s)

/-- NEGB: two's-complement negate on B (R302). -/
def execNegb (s : State) : Result := .next (rmwAcc negOp .b s)

/-- NEG: two's-complement negate on memory (R303). -/
def execNeg (m : IndExt) (s : State) : Result := .next (rmwMem negOp m s)

/-- COMA: one's complement on A (R304). -/
def execComa (s : State) : Result := .next (rmwAcc comOp .a s)

/-- COMB: one's complement on B (R305). -/
def execComb (s : State) : Result := .next (rmwAcc comOp .b s)

/-- COM: one's complement on memory (R306). -/
def execCom (m : IndExt) (s : State) : Result := .next (rmwMem comOp m s)

/-- LSRA: logical shift right on A (R307). -/
def execLsra (s : State) : Result := .next (rmwAcc lsrOp .a s)

/-- LSRB: logical shift right on B (R308). -/
def execLsrb (s : State) : Result := .next (rmwAcc lsrOp .b s)

/-- LSR: logical shift right on memory (R309). -/
def execLsr (m : IndExt) (s : State) : Result := .next (rmwMem lsrOp m s)

/-- RORA: rotate right through carry on A (R310). -/
def execRora (s : State) : Result := .next (rmwAcc rorOp .a s)

/-- RORB: rotate right through carry on B (R311). -/
def execRorb (s : State) : Result := .next (rmwAcc rorOp .b s)

/-- ROR: rotate right through carry on memory (R312). -/
def execRor (m : IndExt) (s : State) : Result := .next (rmwMem rorOp m s)

/-- ASRA: arithmetic shift right on A (R313). -/
def execAsra (s : State) : Result := .next (rmwAcc asrOp .a s)

/-- ASRB: arithmetic shift right on B (R314). -/
def execAsrb (s : State) : Result := .next (rmwAcc asrOp .b s)

/-- ASR: arithmetic shift right on memory (R315). -/
def execAsr (m : IndExt) (s : State) : Result := .next (rmwMem asrOp m s)

/-- ASLA (alias LSLA): arithmetic shift left on A (R316). -/
def execAsla (s : State) : Result := .next (rmwAcc aslOp .a s)

/-- ASLB (alias LSLB): arithmetic shift left on B (R317). -/
def execAslb (s : State) : Result := .next (rmwAcc aslOp .b s)

/-- ASL (alias LSL): arithmetic shift left on memory (R318). -/
def execAsl (m : IndExt) (s : State) : Result := .next (rmwMem aslOp m s)

/-- ROLA: rotate left through carry on A (R319). -/
def execRola (s : State) : Result := .next (rmwAcc rolOp .a s)

/-- ROLB: rotate left through carry on B (R320). -/
def execRolb (s : State) : Result := .next (rmwAcc rolOp .b s)

/-- ROL: rotate left through carry on memory (R321). -/
def execRol (m : IndExt) (s : State) : Result := .next (rmwMem rolOp m s)

/-- DECA: decrement on A (R322). -/
def execDeca (s : State) : Result := .next (rmwAcc decOp .a s)

/-- DECB: decrement on B (R323). -/
def execDecb (s : State) : Result := .next (rmwAcc decOp .b s)

/-- DEC: decrement on memory (R324). -/
def execDec (m : IndExt) (s : State) : Result := .next (rmwMem decOp m s)

/-- INCA: increment on A (R325). -/
def execInca (s : State) : Result := .next (rmwAcc incOp .a s)

/-- INCB: increment on B (R326). -/
def execIncb (s : State) : Result := .next (rmwAcc incOp .b s)

/-- INC: increment on memory (R327). -/
def execInc (m : IndExt) (s : State) : Result := .next (rmwMem incOp m s)

/-- TSTA: test against zero on A (R328). -/
def execTsta (s : State) : Result := .next ((s.setCcr (tstOp s.a s.ccr).2).advance 1)

/-- TSTB: test against zero on B (R329). -/
def execTstb (s : State) : Result := .next ((s.setCcr (tstOp s.b s.ccr).2).advance 1)

/-- TST: test against zero on memory, which is not written (R330). -/
def execTst (m : IndExt) (s : State) : Result :=
  .next ((s.setCcr (tstOp (s.mem.read (ea (indExtMem m) s)) s.ccr).2).advance (memLen (indExtMem m)))

/-- CLRA: clear on A (R331). -/
def execClra (s : State) : Result := .next (rmwAcc clrOp .a s)

/-- CLRB: clear on B (R332). -/
def execClrb (s : State) : Result := .next (rmwAcc clrOp .b s)

/-- CLR: clear on memory (R333). -/
def execClr (m : IndExt) (s : State) : Result := .next (rmwMem clrOp m s)

/-- ASLD (alias LSLD, M6803 only): arithmetic shift left of D (R334). -/
def execAsld (s : State) : Result := .next (shiftD (s.d <<< 1) (s.d.getLsbD 15) s)

/-- LSRD (M6803 only): logical shift right of D; bit 15 of the result is 0, so N is cleared (R335). -/
def execLsrd (s : State) : Result := .next (shiftD (s.d >>> 1) (s.d.getLsbD 0) s)

end Sys2Proof.Machine
end

