-- ==== Sys2Proof/Machine/System.lean ====
section
/-! DEFINITION. Condition-code and system instructions, and INVALID opcodes (45_ccr_system.md R380 to R396). -/

namespace Sys2Proof.Machine

/-- CLC: clear carry (R380). -/
def execClc (s : State) : Result := .next ((s.setCcr { s.ccr with c := false }).advance 1)

/-- SEC: set carry (R381). -/
def execSec (s : State) : Result := .next ((s.setCcr { s.ccr with c := true }).advance 1)

/-- CLV: clear overflow (R382). -/
def execClv (s : State) : Result := .next ((s.setCcr { s.ccr with v := false }).advance 1)

/-- SEV: set overflow (R383). -/
def execSev (s : State) : Result := .next ((s.setCcr { s.ccr with v := true }).advance 1)

/-- CLI: clear interrupt mask (R384). -/
def execCli (s : State) : Result := .next ((s.setCcr { s.ccr with i := false }).advance 1)

/-- SEI: set interrupt mask (R385). -/
def execSei (s : State) : Result := .next ((s.setCcr { s.ccr with i := true }).advance 1)

/-- NOP: no operation (R386). -/
def execNop (s : State) : Result := .next (s.advance 1)

/-- SWI: software interrupt. It takes the exception of vector index 2 whatever I is, and touches neither
`pending` nor `wai` (R390, 60_exceptions.md R437). -/
def execSwi (s : State) : Result := .next (takeException swiIndex (s.pc + 1) false s)

/-- WAI: push the context with the address after the WAI, then park (R391). -/
def execWai (s : State) : Result := .next (((pushContext (s.pc + 1) s).setWai true).setPc (s.pc + 1))

/-- RTI: return from interrupt (R392). -/
def execRti (s : State) : Result := .next (pullContext s)

/-- `InvalidOpcode(op)`: skip one byte, or halt with no change of state, by INC_ON_MISSING (R395,
40_decode_dispatch.md R151). -/
def execInvalid (op : Byte) (s : State) : Result :=
  if s.cfg.incOnMissing then .next (s.advance 1) else .fault (.halt s.pc op)

end Sys2Proof.Machine
end

