-- ==== Sys2Proof/WellFormed.lean ====
section
/-! DEFINITION. Which instruction a variant has: the checks an instruction passes to have an encoding. -/

namespace Sys2Proof

/-- The opcodes INVALID on the M6800 (30_encoding.md R115: 59 values). -/
def invalidOnM6800 : List Byte :=
  [
    0x00, 0x02, 0x03, 0x04, 0x05, 0x12, 0x13, 0x14, 0x15, 0x18, 0x1A, 0x1C,
    0x1D, 0x1E, 0x1F, 0x21, 0x38, 0x3A, 0x3C, 0x3D, 0x41, 0x42, 0x45, 0x4B,
    0x4E, 0x51, 0x52, 0x55, 0x5B, 0x5E, 0x61, 0x62, 0x65, 0x6B, 0x71, 0x72,
    0x75, 0x7B, 0x83, 0x87, 0x8F, 0x93, 0x9D, 0xA3, 0xB3, 0xC3, 0xC7, 0xCC,
    0xCD, 0xCF, 0xD3, 0xDC, 0xDD, 0xE3, 0xEC, 0xED, 0xF3, 0xFC, 0xFD]

/-- The opcodes INVALID on the M6803 (30_encoding.md R116: 36 values). -/
def invalidOnM6803 : List Byte :=
  [
    0x00, 0x02, 0x03, 0x12, 0x13, 0x14, 0x15, 0x18, 0x1A, 0x1C, 0x1D, 0x1E,
    0x1F, 0x41, 0x42, 0x45, 0x4B, 0x4E, 0x51, 0x52, 0x55, 0x5B, 0x5E, 0x61,
    0x62, 0x65, 0x6B, 0x71, 0x72, 0x75, 0x7B, 0x87, 0x8F, 0xC7, 0xCD, 0xCF]

/-- The opcodes INVALID on a variant. -/
def invalidOpcodes : Variant → List Byte
  | .m6800 => invalidOnM6800
  | .m6803 => invalidOnM6803

/-- The operand forms only the M6803 has among those of an instruction both variants have: JSR has its
DIR form (0x9D) on the M6803 only (30_encoding.md R118, 44_control_flow.md R359). -/
def isDir : MemOperand → Bool
  | .dir _ => true
  | .ind _ => false
  | .ext _ => false

/-- Only the M6803 variant has the instruction in this form (30_encoding.md R118). -/
def m6803Only : Instr → Bool
  | .ldaa _ => false
  | .ldab _ => false
  | .staa _ => false
  | .stab _ => false
  | .lds _ => false
  | .ldx _ => false
  | .sts _ => false
  | .stx _ => false
  | .ldd _ => true
  | .std _ => true
  | .tab => false
  | .tba => false
  | .tap => false
  | .tpa => false
  | .tsx => false
  | .txs => false
  | .psha => false
  | .pshb => false
  | .pula => false
  | .pulb => false
  | .pshx => true
  | .pulx => true
  | .adda _ => false
  | .addb _ => false
  | .adca _ => false
  | .adcb _ => false
  | .suba _ => false
  | .subb _ => false
  | .sbca _ => false
  | .sbcb _ => false
  | .cmpa _ => false
  | .cmpb _ => false
  | .anda _ => false
  | .andb _ => false
  | .bita _ => false
  | .bitb _ => false
  | .eora _ => false
  | .eorb _ => false
  | .oraa _ => false
  | .orab _ => false
  | .aba => false
  | .sba => false
  | .cba => false
  | .daa => false
  | .addd _ => true
  | .subd _ => true
  | .cpx _ => false
  | .mul => true
  | .inx => false
  | .dex => false
  | .ins => false
  | .des => false
  | .abx => true
  | .nega => false
  | .negb => false
  | .neg _ => false
  | .coma => false
  | .comb => false
  | .com _ => false
  | .lsra => false
  | .lsrb => false
  | .lsr _ => false
  | .rora => false
  | .rorb => false
  | .ror _ => false
  | .asra => false
  | .asrb => false
  | .asr _ => false
  | .asla => false
  | .aslb => false
  | .asl _ => false
  | .rola => false
  | .rolb => false
  | .rol _ => false
  | .deca => false
  | .decb => false
  | .dec _ => false
  | .inca => false
  | .incb => false
  | .inc _ => false
  | .tsta => false
  | .tstb => false
  | .tst _ => false
  | .clra => false
  | .clrb => false
  | .clr _ => false
  | .asld => true
  | .lsrd => true
  | .bra _ => false
  | .brn _ => true
  | .bhi _ => false
  | .bls _ => false
  | .bcc _ => false
  | .bcs _ => false
  | .bne _ => false
  | .beq _ => false
  | .bvc _ => false
  | .bvs _ => false
  | .bpl _ => false
  | .bmi _ => false
  | .bge _ => false
  | .blt _ => false
  | .bgt _ => false
  | .ble _ => false
  | .bsr _ => false
  | .jmp _ => false
  | .jsr m => isDir m
  | .rts => false
  | .clc => false
  | .sec => false
  | .clv => false
  | .sev => false
  | .cli => false
  | .sei => false
  | .nop => false
  | .swi => false
  | .wai => false
  | .rti => false
  | .invalid _ => false

/-- The variant has the instruction: an M6803-only form needs the M6803 (R118), and `invalid op` needs an
opcode that is INVALID on the variant (R115, R116). Operand widths hold by type. -/
def WellFormed (v : Variant) : Instr → Bool
  | .invalid op => decide (op ∈ invalidOpcodes v)
  | i => !m6803Only i || decide (v = .m6803)

end Sys2Proof
end

