-- ==== Sys2Proof/Decode.lean ====
section
/-! DEFINITION. The decoder, a pure table lookup (40_decode_dispatch.md R140), and the encoder. -/

namespace Sys2Proof

/-! ## The opcode maps -/

/-- What follows the opcode byte, and the instruction it makes (30_encoding.md R101): nothing (INH), one
operand byte (IMM8, DIR, IND, REL) or a 16-bit operand, high byte first (IMM16, EXT). -/
inductive Format where
  | inh (i : Instr)
  | byte (f : Byte → Instr)
  | word (f : Word → Instr)
  | invalid

/-- One cell of the opcode maps: the format and the cycle count on each variant; `none` where the mode
is INVALID (30_encoding.md R113, R114, R120). -/
structure OpcodeRow where
  format : Format
  m6800 : Option Nat
  m6803 : Option Nat

/-- A cell of both maps. -/
def bothRow (f : Format) (c00 c03 : Nat) : OpcodeRow := ⟨f, some c00, some c03⟩

/-- A cell of the M6803 map only (30_encoding.md R118). -/
def m6803Row (f : Format) (c03 : Nat) : OpcodeRow := ⟨f, none, some c03⟩

/-- A cell that is INVALID on both variants. -/
def invalidRow : OpcodeRow := ⟨.invalid, none, none⟩

/-- Row 0 of the maps of R113 and R114, by the low nibble of the opcode. -/
def mapRow0 : Nat → OpcodeRow
  | 0x1 => bothRow (.inh .nop) 2 2
  | 0x4 => m6803Row (.inh .lsrd) 3
  | 0x5 => m6803Row (.inh .asld) 3
  | 0x6 => bothRow (.inh .tap) 2 2
  | 0x7 => bothRow (.inh .tpa) 2 2
  | 0x8 => bothRow (.inh .inx) 4 3
  | 0x9 => bothRow (.inh .dex) 4 3
  | 0xA => bothRow (.inh .clv) 2 2
  | 0xB => bothRow (.inh .sev) 2 2
  | 0xC => bothRow (.inh .clc) 2 2
  | 0xD => bothRow (.inh .sec) 2 2
  | 0xE => bothRow (.inh .cli) 2 2
  | 0xF => bothRow (.inh .sei) 2 2
  | _ => invalidRow

/-- Row 1 of the maps of R113 and R114, by the low nibble of the opcode. -/
def mapRow1 : Nat → OpcodeRow
  | 0x0 => bothRow (.inh .sba) 2 2
  | 0x1 => bothRow (.inh .cba) 2 2
  | 0x6 => bothRow (.inh .tab) 2 2
  | 0x7 => bothRow (.inh .tba) 2 2
  | 0x9 => bothRow (.inh .daa) 2 2
  | 0xB => bothRow (.inh .aba) 2 2
  | _ => invalidRow

/-- Row 2 of the maps of R113 and R114, by the low nibble of the opcode. -/
def mapRow2 : Nat → OpcodeRow
  | 0x0 => bothRow (.byte .bra) 4 3
  | 0x1 => m6803Row (.byte .brn) 3
  | 0x2 => bothRow (.byte .bhi) 4 3
  | 0x3 => bothRow (.byte .bls) 4 3
  | 0x4 => bothRow (.byte .bcc) 4 3
  | 0x5 => bothRow (.byte .bcs) 4 3
  | 0x6 => bothRow (.byte .bne) 4 3
  | 0x7 => bothRow (.byte .beq) 4 3
  | 0x8 => bothRow (.byte .bvc) 4 3
  | 0x9 => bothRow (.byte .bvs) 4 3
  | 0xA => bothRow (.byte .bpl) 4 3
  | 0xB => bothRow (.byte .bmi) 4 3
  | 0xC => bothRow (.byte .bge) 4 3
  | 0xD => bothRow (.byte .blt) 4 3
  | 0xE => bothRow (.byte .bgt) 4 3
  | 0xF => bothRow (.byte .ble) 4 3
  | _ => invalidRow

/-- Row 3 of the maps of R113 and R114, by the low nibble of the opcode. -/
def mapRow3 : Nat → OpcodeRow
  | 0x0 => bothRow (.inh .tsx) 4 3
  | 0x1 => bothRow (.inh .ins) 4 3
  | 0x2 => bothRow (.inh .pula) 4 4
  | 0x3 => bothRow (.inh .pulb) 4 4
  | 0x4 => bothRow (.inh .des) 4 3
  | 0x5 => bothRow (.inh .txs) 4 3
  | 0x6 => bothRow (.inh .psha) 4 3
  | 0x7 => bothRow (.inh .pshb) 4 3
  | 0x8 => m6803Row (.inh .pulx) 5
  | 0x9 => bothRow (.inh .rts) 5 5
  | 0xA => m6803Row (.inh .abx) 3
  | 0xB => bothRow (.inh .rti) 10 10
  | 0xC => m6803Row (.inh .pshx) 4
  | 0xD => m6803Row (.inh .mul) 10
  | 0xE => bothRow (.inh .wai) 9 9
  | 0xF => bothRow (.inh .swi) 12 12
  | _ => invalidRow

/-- Row 4 of the maps of R113 and R114, by the low nibble of the opcode. -/
def mapRow4 : Nat → OpcodeRow
  | 0x0 => bothRow (.inh .nega) 2 2
  | 0x3 => bothRow (.inh .coma) 2 2
  | 0x4 => bothRow (.inh .lsra) 2 2
  | 0x6 => bothRow (.inh .rora) 2 2
  | 0x7 => bothRow (.inh .asra) 2 2
  | 0x8 => bothRow (.inh .asla) 2 2
  | 0x9 => bothRow (.inh .rola) 2 2
  | 0xA => bothRow (.inh .deca) 2 2
  | 0xC => bothRow (.inh .inca) 2 2
  | 0xD => bothRow (.inh .tsta) 2 2
  | 0xF => bothRow (.inh .clra) 2 2
  | _ => invalidRow

/-- Row 5 of the maps of R113 and R114, by the low nibble of the opcode. -/
def mapRow5 : Nat → OpcodeRow
  | 0x0 => bothRow (.inh .negb) 2 2
  | 0x3 => bothRow (.inh .comb) 2 2
  | 0x4 => bothRow (.inh .lsrb) 2 2
  | 0x6 => bothRow (.inh .rorb) 2 2
  | 0x7 => bothRow (.inh .asrb) 2 2
  | 0x8 => bothRow (.inh .aslb) 2 2
  | 0x9 => bothRow (.inh .rolb) 2 2
  | 0xA => bothRow (.inh .decb) 2 2
  | 0xC => bothRow (.inh .incb) 2 2
  | 0xD => bothRow (.inh .tstb) 2 2
  | 0xF => bothRow (.inh .clrb) 2 2
  | _ => invalidRow

/-- Row 6 of the maps of R113 and R114, by the low nibble of the opcode. -/
def mapRow6 : Nat → OpcodeRow
  | 0x0 => bothRow (.byte fun d => .neg (.ind d)) 7 6
  | 0x3 => bothRow (.byte fun d => .com (.ind d)) 7 6
  | 0x4 => bothRow (.byte fun d => .lsr (.ind d)) 7 6
  | 0x6 => bothRow (.byte fun d => .ror (.ind d)) 7 6
  | 0x7 => bothRow (.byte fun d => .asr (.ind d)) 7 6
  | 0x8 => bothRow (.byte fun d => .asl (.ind d)) 7 6
  | 0x9 => bothRow (.byte fun d => .rol (.ind d)) 7 6
  | 0xA => bothRow (.byte fun d => .dec (.ind d)) 7 6
  | 0xC => bothRow (.byte fun d => .inc (.ind d)) 7 6
  | 0xD => bothRow (.byte fun d => .tst (.ind d)) 7 6
  | 0xE => bothRow (.byte fun d => .jmp (.ind d)) 4 3
  | 0xF => bothRow (.byte fun d => .clr (.ind d)) 7 6
  | _ => invalidRow

/-- Row 7 of the maps of R113 and R114, by the low nibble of the opcode. -/
def mapRow7 : Nat → OpcodeRow
  | 0x0 => bothRow (.word fun w => .neg (.ext w)) 6 6
  | 0x3 => bothRow (.word fun w => .com (.ext w)) 6 6
  | 0x4 => bothRow (.word fun w => .lsr (.ext w)) 6 6
  | 0x6 => bothRow (.word fun w => .ror (.ext w)) 6 6
  | 0x7 => bothRow (.word fun w => .asr (.ext w)) 6 6
  | 0x8 => bothRow (.word fun w => .asl (.ext w)) 6 6
  | 0x9 => bothRow (.word fun w => .rol (.ext w)) 6 6
  | 0xA => bothRow (.word fun w => .dec (.ext w)) 6 6
  | 0xC => bothRow (.word fun w => .inc (.ext w)) 6 6
  | 0xD => bothRow (.word fun w => .tst (.ext w)) 6 6
  | 0xE => bothRow (.word fun w => .jmp (.ext w)) 3 3
  | 0xF => bothRow (.word fun w => .clr (.ext w)) 6 6
  | _ => invalidRow

/-- Row 8 of the maps of R113 and R114, by the low nibble of the opcode. -/
def mapRow8 : Nat → OpcodeRow
  | 0x0 => bothRow (.byte fun v => .suba (.imm v)) 2 2
  | 0x1 => bothRow (.byte fun v => .cmpa (.imm v)) 2 2
  | 0x2 => bothRow (.byte fun v => .sbca (.imm v)) 2 2
  | 0x3 => m6803Row (.word fun v => .subd (.imm v)) 4
  | 0x4 => bothRow (.byte fun v => .anda (.imm v)) 2 2
  | 0x5 => bothRow (.byte fun v => .bita (.imm v)) 2 2
  | 0x6 => bothRow (.byte fun v => .ldaa (.imm v)) 2 2
  | 0x8 => bothRow (.byte fun v => .eora (.imm v)) 2 2
  | 0x9 => bothRow (.byte fun v => .adca (.imm v)) 2 2
  | 0xA => bothRow (.byte fun v => .oraa (.imm v)) 2 2
  | 0xB => bothRow (.byte fun v => .adda (.imm v)) 2 2
  | 0xC => bothRow (.word fun v => .cpx (.imm v)) 3 4
  | 0xD => bothRow (.byte .bsr) 8 6
  | 0xE => bothRow (.word fun v => .lds (.imm v)) 3 3
  | _ => invalidRow

/-- Row 9 of the maps of R113 and R114, by the low nibble of the opcode. -/
def mapRow9 : Nat → OpcodeRow
  | 0x0 => bothRow (.byte fun d => .suba (.mem (.dir d))) 3 3
  | 0x1 => bothRow (.byte fun d => .cmpa (.mem (.dir d))) 3 3
  | 0x2 => bothRow (.byte fun d => .sbca (.mem (.dir d))) 3 3
  | 0x3 => m6803Row (.byte fun d => .subd (.mem (.dir d))) 5
  | 0x4 => bothRow (.byte fun d => .anda (.mem (.dir d))) 3 3
  | 0x5 => bothRow (.byte fun d => .bita (.mem (.dir d))) 3 3
  | 0x6 => bothRow (.byte fun d => .ldaa (.mem (.dir d))) 3 3
  | 0x7 => bothRow (.byte fun d => .staa (.dir d)) 4 3
  | 0x8 => bothRow (.byte fun d => .eora (.mem (.dir d))) 3 3
  | 0x9 => bothRow (.byte fun d => .adca (.mem (.dir d))) 3 3
  | 0xA => bothRow (.byte fun d => .oraa (.mem (.dir d))) 3 3
  | 0xB => bothRow (.byte fun d => .adda (.mem (.dir d))) 3 3
  | 0xC => bothRow (.byte fun d => .cpx (.mem (.dir d))) 4 5
  | 0xD => m6803Row (.byte fun d => .jsr (.dir d)) 5
  | 0xE => bothRow (.byte fun d => .lds (.mem (.dir d))) 4 4
  | 0xF => bothRow (.byte fun d => .sts (.dir d)) 5 4
  | _ => invalidRow

/-- Row A of the maps of R113 and R114, by the low nibble of the opcode. -/
def mapRowA : Nat → OpcodeRow
  | 0x0 => bothRow (.byte fun d => .suba (.mem (.ind d))) 5 4
  | 0x1 => bothRow (.byte fun d => .cmpa (.mem (.ind d))) 5 4
  | 0x2 => bothRow (.byte fun d => .sbca (.mem (.ind d))) 5 4
  | 0x3 => m6803Row (.byte fun d => .subd (.mem (.ind d))) 6
  | 0x4 => bothRow (.byte fun d => .anda (.mem (.ind d))) 5 4
  | 0x5 => bothRow (.byte fun d => .bita (.mem (.ind d))) 5 4
  | 0x6 => bothRow (.byte fun d => .ldaa (.mem (.ind d))) 5 4
  | 0x7 => bothRow (.byte fun d => .staa (.ind d)) 6 4
  | 0x8 => bothRow (.byte fun d => .eora (.mem (.ind d))) 5 4
  | 0x9 => bothRow (.byte fun d => .adca (.mem (.ind d))) 5 4
  | 0xA => bothRow (.byte fun d => .oraa (.mem (.ind d))) 5 4
  | 0xB => bothRow (.byte fun d => .adda (.mem (.ind d))) 5 4
  | 0xC => bothRow (.byte fun d => .cpx (.mem (.ind d))) 6 6
  | 0xD => bothRow (.byte fun d => .jsr (.ind d)) 8 6
  | 0xE => bothRow (.byte fun d => .lds (.mem (.ind d))) 6 5
  | 0xF => bothRow (.byte fun d => .sts (.ind d)) 7 5
  | _ => invalidRow

/-- Row B of the maps of R113 and R114, by the low nibble of the opcode. -/
def mapRowB : Nat → OpcodeRow
  | 0x0 => bothRow (.word fun w => .suba (.mem (.ext w))) 4 4
  | 0x1 => bothRow (.word fun w => .cmpa (.mem (.ext w))) 4 4
  | 0x2 => bothRow (.word fun w => .sbca (.mem (.ext w))) 4 4
  | 0x3 => m6803Row (.word fun w => .subd (.mem (.ext w))) 6
  | 0x4 => bothRow (.word fun w => .anda (.mem (.ext w))) 4 4
  | 0x5 => bothRow (.word fun w => .bita (.mem (.ext w))) 4 4
  | 0x6 => bothRow (.word fun w => .ldaa (.mem (.ext w))) 4 4
  | 0x7 => bothRow (.word fun w => .staa (.ext w)) 5 4
  | 0x8 => bothRow (.word fun w => .eora (.mem (.ext w))) 4 4
  | 0x9 => bothRow (.word fun w => .adca (.mem (.ext w))) 4 4
  | 0xA => bothRow (.word fun w => .oraa (.mem (.ext w))) 4 4
  | 0xB => bothRow (.word fun w => .adda (.mem (.ext w))) 4 4
  | 0xC => bothRow (.word fun w => .cpx (.mem (.ext w))) 5 6
  | 0xD => bothRow (.word fun w => .jsr (.ext w)) 9 6
  | 0xE => bothRow (.word fun w => .lds (.mem (.ext w))) 5 5
  | 0xF => bothRow (.word fun w => .sts (.ext w)) 6 5
  | _ => invalidRow

/-- Row C of the maps of R113 and R114, by the low nibble of the opcode. -/
def mapRowC : Nat → OpcodeRow
  | 0x0 => bothRow (.byte fun v => .subb (.imm v)) 2 2
  | 0x1 => bothRow (.byte fun v => .cmpb (.imm v)) 2 2
  | 0x2 => bothRow (.byte fun v => .sbcb (.imm v)) 2 2
  | 0x3 => m6803Row (.word fun v => .addd (.imm v)) 4
  | 0x4 => bothRow (.byte fun v => .andb (.imm v)) 2 2
  | 0x5 => bothRow (.byte fun v => .bitb (.imm v)) 2 2
  | 0x6 => bothRow (.byte fun v => .ldab (.imm v)) 2 2
  | 0x8 => bothRow (.byte fun v => .eorb (.imm v)) 2 2
  | 0x9 => bothRow (.byte fun v => .adcb (.imm v)) 2 2
  | 0xA => bothRow (.byte fun v => .orab (.imm v)) 2 2
  | 0xB => bothRow (.byte fun v => .addb (.imm v)) 2 2
  | 0xC => m6803Row (.word fun v => .ldd (.imm v)) 3
  | 0xE => bothRow (.word fun v => .ldx (.imm v)) 3 3
  | _ => invalidRow

/-- Row D of the maps of R113 and R114, by the low nibble of the opcode. -/
def mapRowD : Nat → OpcodeRow
  | 0x0 => bothRow (.byte fun d => .subb (.mem (.dir d))) 3 3
  | 0x1 => bothRow (.byte fun d => .cmpb (.mem (.dir d))) 3 3
  | 0x2 => bothRow (.byte fun d => .sbcb (.mem (.dir d))) 3 3
  | 0x3 => m6803Row (.byte fun d => .addd (.mem (.dir d))) 5
  | 0x4 => bothRow (.byte fun d => .andb (.mem (.dir d))) 3 3
  | 0x5 => bothRow (.byte fun d => .bitb (.mem (.dir d))) 3 3
  | 0x6 => bothRow (.byte fun d => .ldab (.mem (.dir d))) 3 3
  | 0x7 => bothRow (.byte fun d => .stab (.dir d)) 4 3
  | 0x8 => bothRow (.byte fun d => .eorb (.mem (.dir d))) 3 3
  | 0x9 => bothRow (.byte fun d => .adcb (.mem (.dir d))) 3 3
  | 0xA => bothRow (.byte fun d => .orab (.mem (.dir d))) 3 3
  | 0xB => bothRow (.byte fun d => .addb (.mem (.dir d))) 3 3
  | 0xC => m6803Row (.byte fun d => .ldd (.mem (.dir d))) 4
  | 0xD => m6803Row (.byte fun d => .std (.dir d)) 4
  | 0xE => bothRow (.byte fun d => .ldx (.mem (.dir d))) 4 4
  | 0xF => bothRow (.byte fun d => .stx (.dir d)) 5 4
  | _ => invalidRow

/-- Row E of the maps of R113 and R114, by the low nibble of the opcode. -/
def mapRowE : Nat → OpcodeRow
  | 0x0 => bothRow (.byte fun d => .subb (.mem (.ind d))) 5 4
  | 0x1 => bothRow (.byte fun d => .cmpb (.mem (.ind d))) 5 4
  | 0x2 => bothRow (.byte fun d => .sbcb (.mem (.ind d))) 5 4
  | 0x3 => m6803Row (.byte fun d => .addd (.mem (.ind d))) 6
  | 0x4 => bothRow (.byte fun d => .andb (.mem (.ind d))) 5 4
  | 0x5 => bothRow (.byte fun d => .bitb (.mem (.ind d))) 5 4
  | 0x6 => bothRow (.byte fun d => .ldab (.mem (.ind d))) 5 4
  | 0x7 => bothRow (.byte fun d => .stab (.ind d)) 6 4
  | 0x8 => bothRow (.byte fun d => .eorb (.mem (.ind d))) 5 4
  | 0x9 => bothRow (.byte fun d => .adcb (.mem (.ind d))) 5 4
  | 0xA => bothRow (.byte fun d => .orab (.mem (.ind d))) 5 4
  | 0xB => bothRow (.byte fun d => .addb (.mem (.ind d))) 5 4
  | 0xC => m6803Row (.byte fun d => .ldd (.mem (.ind d))) 5
  | 0xD => m6803Row (.byte fun d => .std (.ind d)) 5
  | 0xE => bothRow (.byte fun d => .ldx (.mem (.ind d))) 6 5
  | 0xF => bothRow (.byte fun d => .stx (.ind d)) 7 5
  | _ => invalidRow

/-- Row F of the maps of R113 and R114, by the low nibble of the opcode. -/
def mapRowF : Nat → OpcodeRow
  | 0x0 => bothRow (.word fun w => .subb (.mem (.ext w))) 4 4
  | 0x1 => bothRow (.word fun w => .cmpb (.mem (.ext w))) 4 4
  | 0x2 => bothRow (.word fun w => .sbcb (.mem (.ext w))) 4 4
  | 0x3 => m6803Row (.word fun w => .addd (.mem (.ext w))) 6
  | 0x4 => bothRow (.word fun w => .andb (.mem (.ext w))) 4 4
  | 0x5 => bothRow (.word fun w => .bitb (.mem (.ext w))) 4 4
  | 0x6 => bothRow (.word fun w => .ldab (.mem (.ext w))) 4 4
  | 0x7 => bothRow (.word fun w => .stab (.ext w)) 5 4
  | 0x8 => bothRow (.word fun w => .eorb (.mem (.ext w))) 4 4
  | 0x9 => bothRow (.word fun w => .adcb (.mem (.ext w))) 4 4
  | 0xA => bothRow (.word fun w => .orab (.mem (.ext w))) 4 4
  | 0xB => bothRow (.word fun w => .addb (.mem (.ext w))) 4 4
  | 0xC => m6803Row (.word fun w => .ldd (.mem (.ext w))) 5
  | 0xD => m6803Row (.word fun w => .std (.ext w)) 5
  | 0xE => bothRow (.word fun w => .ldx (.mem (.ext w))) 5 5
  | 0xF => bothRow (.word fun w => .stx (.ext w)) 6 5
  | _ => invalidRow

/-- The cell of an opcode byte: row the high nibble, column the low nibble (R113, R114). -/
def opcodeRow (op : Byte) : OpcodeRow :=
  match op.toNat / 16 with
  | 0x0 => mapRow0 (op.toNat % 16)
  | 0x1 => mapRow1 (op.toNat % 16)
  | 0x2 => mapRow2 (op.toNat % 16)
  | 0x3 => mapRow3 (op.toNat % 16)
  | 0x4 => mapRow4 (op.toNat % 16)
  | 0x5 => mapRow5 (op.toNat % 16)
  | 0x6 => mapRow6 (op.toNat % 16)
  | 0x7 => mapRow7 (op.toNat % 16)
  | 0x8 => mapRow8 (op.toNat % 16)
  | 0x9 => mapRow9 (op.toNat % 16)
  | 0xA => mapRowA (op.toNat % 16)
  | 0xB => mapRowB (op.toNat % 16)
  | 0xC => mapRowC (op.toNat % 16)
  | 0xD => mapRowD (op.toNat % 16)
  | 0xE => mapRowE (op.toNat % 16)
  | _ => mapRowF (op.toNat % 16)

/-- The cycle count of an opcode on a variant; `none` exactly when its mode is INVALID
(40_decode_dispatch.md R140, 30_encoding.md R120). -/
def opcodeCycles (v : Variant) (op : Byte) : Option Nat :=
  match v with
  | .m6800 => (opcodeRow op).m6800
  | .m6803 => (opcodeRow op).m6803

/-- The number of operand bytes of a format (30_encoding.md R101). -/
def Format.operandBytes : Format → Nat
  | .inh _ => 0
  | .byte _ => 1
  | .word _ => 2
  | .invalid => 0

/-- The byte length of the instruction an opcode byte begins on a variant; 1 for an INVALID opcode
(30_encoding.md R109, 40_decode_dispatch.md R140). -/
def opcodeLength (v : Variant) (op : Byte) : Nat :=
  match opcodeCycles v op with
  | none => 1
  | some _ => (opcodeRow op).format.operandBytes + 1

/-! ## The decoder -/

/-- Why the decoder refuses a list of bytes. A fetch always offers three bytes, so neither reason arises in
a step (log 12). -/
inductive DecodeError where
  /-- There is no opcode byte. Safe. -/
  | noBytes
  /-- The list ends before the operand bytes of this opcode. Safe. -/
  | truncated (op : Byte)
  deriving DecidableEq, Repr

/-- The instruction of a format, read from the bytes after the opcode (30_encoding.md R101). -/
def Format.read (op : Byte) : Format → List Byte → Except DecodeError (Instr × List Byte)
  | .inh i, rest => .ok (i, rest)
  | .byte f, b :: rest => .ok (f b, rest)
  | .word f, h :: l :: rest => .ok (f (joinBytes h l), rest)
  | .invalid, rest => .ok (.invalid op, rest)
  | .byte _, [] => .error (.truncated op)
  | .word _, [] => .error (.truncated op)
  | .word _, [_] => .error (.truncated op)

/-- The decoder: the instruction the bytes begin with on a variant, and the bytes after it
(40_decode_dispatch.md R140; the opcode byte alone fixes the format, 30_encoding.md R100). -/
def decode (v : Variant) : List Byte → Except DecodeError (Instr × List Byte)
  | [] => .error .noBytes
  | op :: rest =>
    match opcodeCycles v op with
    | none => .ok (.invalid op, rest)
    | some _ => (opcodeRow op).format.read op rest

/-! ## The encoder -/

/-- Two-operand group, 8-bit source: bits 5:4 of the opcode are 00 IMM, 01 DIR, 10 IND, 11 EXT
(30_encoding.md R112). `base` is the IMM opcode. -/
def encode8 (base : Byte) : Operand8 → List Byte
  | .imm v => [base, v]
  | .mem (.dir d) => [base ||| 0x10, d]
  | .mem (.ind d) => [base ||| 0x20, d]
  | .mem (.ext w) => [base ||| 0x30, hiByte w, loByte w]

/-- Two-operand group, 16-bit source; the IMM row uses IMM16 (R112, R104). -/
def encode16 (base : Byte) : Operand16 → List Byte
  | .imm v => [base, hiByte v, loByte v]
  | .mem (.dir d) => [base ||| 0x10, d]
  | .mem (.ind d) => [base ||| 0x20, d]
  | .mem (.ext w) => [base ||| 0x30, hiByte w, loByte w]

/-- Two-operand group, memory destination or jump target (R112). `base` is the opcode of the IMM column. -/
def encodeMem (base : Byte) : MemOperand → List Byte
  | .dir d => [base ||| 0x10, d]
  | .ind d => [base ||| 0x20, d]
  | .ext w => [base ||| 0x30, hiByte w, loByte w]

/-- Single-operand group on memory: bits 5:4 of the opcode are 10 IND, 11 EXT (R111). `base` is the
opcode of the accumulator A row. -/
def encodeIndExt (base : Byte) : IndExt → List Byte
  | .ind d => [base ||| 0x20, d]
  | .ext w => [base ||| 0x30, hiByte w, loByte w]

/-- The bytes of an instruction (30_encoding.md R110 to R112). -/
def encode : Instr → List Byte
  | .ldaa o => encode8 0x86 o
  | .ldab o => encode8 0xC6 o
  | .staa m => encodeMem 0x87 m
  | .stab m => encodeMem 0xC7 m
  | .lds o => encode16 0x8E o
  | .ldx o => encode16 0xCE o
  | .sts m => encodeMem 0x8F m
  | .stx m => encodeMem 0xCF m
  | .ldd o => encode16 0xCC o
  | .std m => encodeMem 0xCD m
  | .tab => [0x16]
  | .tba => [0x17]
  | .tap => [0x06]
  | .tpa => [0x07]
  | .tsx => [0x30]
  | .txs => [0x35]
  | .psha => [0x36]
  | .pshb => [0x37]
  | .pula => [0x32]
  | .pulb => [0x33]
  | .pshx => [0x3C]
  | .pulx => [0x38]
  | .adda o => encode8 0x8B o
  | .addb o => encode8 0xCB o
  | .adca o => encode8 0x89 o
  | .adcb o => encode8 0xC9 o
  | .suba o => encode8 0x80 o
  | .subb o => encode8 0xC0 o
  | .sbca o => encode8 0x82 o
  | .sbcb o => encode8 0xC2 o
  | .cmpa o => encode8 0x81 o
  | .cmpb o => encode8 0xC1 o
  | .anda o => encode8 0x84 o
  | .andb o => encode8 0xC4 o
  | .bita o => encode8 0x85 o
  | .bitb o => encode8 0xC5 o
  | .eora o => encode8 0x88 o
  | .eorb o => encode8 0xC8 o
  | .oraa o => encode8 0x8A o
  | .orab o => encode8 0xCA o
  | .aba => [0x1B]
  | .sba => [0x10]
  | .cba => [0x11]
  | .daa => [0x19]
  | .addd o => encode16 0xC3 o
  | .subd o => encode16 0x83 o
  | .cpx o => encode16 0x8C o
  | .mul => [0x3D]
  | .inx => [0x08]
  | .dex => [0x09]
  | .ins => [0x31]
  | .des => [0x34]
  | .abx => [0x3A]
  | .nega => [0x40]
  | .negb => [0x50]
  | .neg m => encodeIndExt 0x40 m
  | .coma => [0x43]
  | .comb => [0x53]
  | .com m => encodeIndExt 0x43 m
  | .lsra => [0x44]
  | .lsrb => [0x54]
  | .lsr m => encodeIndExt 0x44 m
  | .rora => [0x46]
  | .rorb => [0x56]
  | .ror m => encodeIndExt 0x46 m
  | .asra => [0x47]
  | .asrb => [0x57]
  | .asr m => encodeIndExt 0x47 m
  | .asla => [0x48]
  | .aslb => [0x58]
  | .asl m => encodeIndExt 0x48 m
  | .rola => [0x49]
  | .rolb => [0x59]
  | .rol m => encodeIndExt 0x49 m
  | .deca => [0x4A]
  | .decb => [0x5A]
  | .dec m => encodeIndExt 0x4A m
  | .inca => [0x4C]
  | .incb => [0x5C]
  | .inc m => encodeIndExt 0x4C m
  | .tsta => [0x4D]
  | .tstb => [0x5D]
  | .tst m => encodeIndExt 0x4D m
  | .clra => [0x4F]
  | .clrb => [0x5F]
  | .clr m => encodeIndExt 0x4F m
  | .asld => [0x05]
  | .lsrd => [0x04]
  | .bra rel => [0x20, rel]
  | .brn rel => [0x21, rel]
  | .bhi rel => [0x22, rel]
  | .bls rel => [0x23, rel]
  | .bcc rel => [0x24, rel]
  | .bcs rel => [0x25, rel]
  | .bne rel => [0x26, rel]
  | .beq rel => [0x27, rel]
  | .bvc rel => [0x28, rel]
  | .bvs rel => [0x29, rel]
  | .bpl rel => [0x2A, rel]
  | .bmi rel => [0x2B, rel]
  | .bge rel => [0x2C, rel]
  | .blt rel => [0x2D, rel]
  | .bgt rel => [0x2E, rel]
  | .ble rel => [0x2F, rel]
  | .bsr rel => [0x8D, rel]
  | .jmp m => encodeIndExt 0x4E m
  | .jsr m => encodeMem 0x8D m
  | .rts => [0x39]
  | .clc => [0x0C]
  | .sec => [0x0D]
  | .clv => [0x0A]
  | .sev => [0x0B]
  | .cli => [0x0E]
  | .sei => [0x0F]
  | .nop => [0x01]
  | .swi => [0x3F]
  | .wai => [0x3E]
  | .rti => [0x3B]
  | .invalid op => [op]

/-- The cycle count of an instruction on a variant; `none` where the variant does not have it in this form
(30_encoding.md R120). -/
def instrCycles (v : Variant) (i : Instr) : Option Nat :=
  match encode i with
  | [] => none
  | op :: _ => opcodeCycles v op

/-! ## Words as the opcode table numbers them -/

/-- The three bytes of a table word: bits 7..0 first; every bit from `nbits` up is 0. -/
def tableBytes (nbits w : Nat) : List Byte :=
  let u := w % 2 ^ nbits
  [BitVec.ofNat 8 u, BitVec.ofNat 8 (u / 256), BitVec.ofNat 8 (u / 65536)]

/-- The variant a table word of `nbits` bits belongs to: `v` if its table has the opcode; else the M6803
if its table gives the opcode an instruction of `nbits` bits; else `v`, where the opcode is INVALID
(log 17). -/
def tableVariant (v : Variant) (nbits w : Nat) : Variant :=
  let op : Byte := BitVec.ofNat 8 (w % 2 ^ nbits)
  match opcodeCycles v op, opcodeCycles .m6803 op with
  | none, some _ => if opcodeLength .m6803 op * 8 = nbits then .m6803 else v
  | _, _ => v

/-- The instruction the decoder reads from a table word (log 17). -/
def decodeTableWord (nbits w : Nat) : Option Instr :=
  match decode (tableVariant .m6800 nbits w) (tableBytes nbits w) with
  | .ok (i, _) => some i
  | .error _ => none

end Sys2Proof
end

