-- ==== Sys2Proof/Machine/Fetch.lean ====
section
/-! DEFINITION. Instruction fetch (20_memory.md R77, R90; 40_decode_dispatch.md R148) and cycle counts (30_encoding.md R120). -/

namespace Sys2Proof.Machine

/-- The three bytes at PC, PC + 1 and PC + 2, modulo 65,536: an instruction is one to three of them (R77). -/
def fetchBytes (s : State) : List Byte :=
  [s.mem.read s.pc, s.mem.read (s.pc + 1), s.mem.read (s.pc + 2)]

/-- The instruction at PC on the current variant (R148, R152). Three bytes always decode
(`decode_three_bytes`), so the error case is never met (log 12). -/
def fetchInstr (s : State) : Instr :=
  match decode s.cfg.variant (fetchBytes s) with
  | .ok (i, _) => i
  | .error _ => .invalid (s.mem.read s.pc)

/-- The cycle count the dispatch at PC occupies: the table's, or `INVALID_CYCLES` for a skipped INVALID opcode
(R140, 45_ccr_system.md R395). -/
def dispatchCycles (s : State) : Nat :=
  match opcodeCycles s.cfg.variant (s.mem.read s.pc) with
  | some c => c
  | none => s.cfg.invalidCycles

/-- The state in which the next step fetches and runs the instruction of a table word: its bytes at PC,
PC + 1 and PC + 2, the variant its row belongs to, and nothing pending, parked or still occupying cycles.
It stands for the host's load of a program (logs 4 and 17). -/
def placeInstruction (nbits w : Nat) (s : State) : State :=
  let put (m : Memory) (off : Word) (b : Byte) : Memory := m.write (s.pc + off) b
  let u := w % 2 ^ nbits
  { s with
    mem := put (put (put s.mem 0 (BitVec.ofNat 8 u)) 1 (BitVec.ofNat 8 (u / 256))) 2 (BitVec.ofNat 8 (u / 65536))
    cfg := { s.cfg with variant := tableVariant s.cfg.variant nbits w }
    pending := .none
    wai := false
    cycle := 0
    curCycles := 0 }

end Sys2Proof.Machine
end

