-- ==== Sys2Proof/Machine/Tick.lean ====
section
/-! DEFINITION. The two ticks (60_exceptions.md R425, R428). A fault carries no state, so a tick that halts is
discarded whole (40_decode_dispatch.md R151). -/

namespace Sys2Proof.Machine

/-- Runs a continuation on the next state. -/
def andThen (r : Result) (k : State → State) : Result :=
  match r with
  | .next s => .next (k s)
  | .fault f => .fault f
  | .refused q => .refused q

/-- `Dispatch()`: the instruction at PC (R148). -/
def dispatch (s : State) : Result := exec (fetchInstr s) s

/-- A pending IRQ with I = 1 is dropped (60_exceptions.md R424). -/
def irqMasked (s : State) : Bool := decide (s.pending = .request .irq) && s.ccr.i

/-- The rest of an IPS tick when nothing is pending: parked, or one instruction (R425). -/
def ipsRun (s : State) : Result :=
  if s.wai then .next (s.setCycles 0 0) else andThen (dispatch s) (fun t => t.setCycles 0 0)

/-- `IPSTick()` (R425). -/
def ipsTick (s : State) : Result :=
  match s.pending with
  | .service _ => .fault .serviceStateInIPS
  | .request k =>
    if irqMasked s then ipsRun (s.setPending .none)
    else .next (((service k s).setPending .none).setCycles 0 0)
  | .none => ipsRun s

/-- The rest of a CPS dispatch point when nothing is pending: parked at no cost, or one instruction (R428). -/
def cpsRun (s : State) : Result :=
  if s.wai then .next (s.setCycles 0 0) else andThen (dispatch s) (fun t => t.setCycles 0 (dispatchCycles s))

/-- A request taken at a CPS dispatch point: one instruction, unless parked, then the elevated count
(R429). -/
def cpsRequest (k : Request) (s : State) : Result :=
  if s.wai then .next ((s.setCycles 0 Config.intEntryCycles).setPending (.service k))
  else andThen (dispatch s) (fun t => (t.setCycles 0 (dispatchCycles s + Config.intEntryCycles)).setPending (.service k))

/-- A CPS dispatch point (R428, R430). -/
def cpsDispatchPoint (s : State) : Result :=
  match s.pending with
  | .service k => .next (((service k s).setPending .none).setCycles 0 1)
  | .request k => if irqMasked s then cpsRun (s.setPending .none) else cpsRequest k s
  | .none => cpsRun s

/-- `CPSTick()`: one machine cycle (R428). -/
def cpsTick (s : State) : Result :=
  if s.cycle + 1 < s.curCycles then .next (s.setCycles (s.cycle + 1) s.curCycles) else cpsDispatchPoint s

/-- `tick()`, by CYCLE_MODE (10_state.md R55). -/
def tick (s : State) : Result := if s.cfg.cycleMode then cpsTick s else ipsTick s

end Sys2Proof.Machine
end

