-- ==== Sys2Proof/Machine/Step.lean ====
section
/-! DEFINITION. One step: the host's `tick()` (10_state.md R55, log 13). -/

namespace Sys2Proof.Machine

/-- One tick, IPS or CPS by CYCLE_MODE. -/
def step (s : State) : Host.Outcome State Fault Refusal := tick s

/-- `s` with the instruction of a table word where `step` fetches next (logs 4 and 17). -/
def State.withFetchWord (s : State) (nbits w : Nat) : State := placeInstruction nbits w s

end Sys2Proof.Machine
end

