-- ==== Sys2Proof/Machine/Interface.lean ====
section
/-! DEFINITION. The host's operations, each applied between two ticks (10_state.md R55 to R60). -/

namespace Sys2Proof.Machine

/-- `reset()` (70_reset_and_hazards.md R470). The parameters and settings are unchanged (R472). -/
def hostReset (s : State) : State :=
  { s with
    mem := s.backup
    sp := 0x00FF
    a := s.cfg.resetA
    b := s.cfg.resetB
    x := s.cfg.resetX
    x2 := s.cfg.resetX2
    curIndReg := .x
    ccr := ccrOfByte s.cfg.resetCcr
    pending := .none
    wai := false
    cycle := 0
    curCycles := 0
    pc := if s.cfg.resetPcFromVector then vectorFetch s.backup 0 else s.cfg.resetPc }

/-- `step()`: one IPS tick whatever CYCLE_MODE says (10_state.md R57). -/
def hostStep (s : State) : Result := ipsTick s

/-- `raise(k)`: latched only when nothing is pending (60_exceptions.md R422). -/
def raiseRequest (k : Request) (s : State) : State :=
  if s.pending = .none then s.setPending (.request k) else s

/-- `setMemory(a, v)` (10_state.md R58). -/
def setMemory (a : Word) (v : Byte) (s : State) : State := s.store8 a v

/-- `setKey(v)` (R58, log 7). -/
def setKey (v : Byte) (s : State) : State := s.store8 Config.keyAddr v

/-- `setMouse(v)` (R58, log 7). -/
def setMouse (v : Byte) (s : State) : State := s.store8 Config.mouseAddr v

/-- `setMode(b)` (R51). -/
def setMode (b : Bool) (s : State) : State := { s with cfg := { s.cfg with cycleMode := b } }

/-- `setIncOnMissing(b)` (R53). -/
def setIncOnMissing (b : Bool) (s : State) : State := { s with cfg := { s.cfg with incOnMissing := b } }

/-- `switchVersion(v)` (R52). -/
def switchVersion (v : Variant) (s : State) : State := { s with cfg := { s.cfg with variant := v } }

/-- `loadImage(img)` (R59). -/
def loadImage (img : Vector Byte 65536) (s : State) : State :=
  { s with mem := Memory.ofImage img, backup := Memory.ofImage img }

/-- What `snapshot()` returns (R60). -/
structure Snapshot where
  mem : Memory
  cycle : Nat
  ccr : Byte
  pc : Word
  sp : Word
  a : Byte
  b : Byte
  ix : Word
  cycleMode : Bool
  deriving DecidableEq, Repr

/-- `snapshot()`, which changes nothing (R60). -/
def snapshot (s : State) : Snapshot :=
  { mem := s.mem, cycle := s.cycle, ccr := ccrByte s.ccr, pc := s.pc, sp := s.sp, a := s.a, b := s.b, ix := s.ix,
    cycleMode := s.cfg.cycleMode }

/-- The host actions that change State between two ticks (R55, R56). -/
inductive HostAction where
  | reset
  | raise (k : Request)
  | setMemory (a : Word) (v : Byte)
  | setKey (v : Byte)
  | setMouse (v : Byte)
  | setMode (b : Bool)
  | setIncOnMissing (b : Bool)
  | switchVersion (v : Variant)
  | loadImage (img : Vector Byte 65536)

/-- A host action applied. None can stop. -/
def applyAction (act : HostAction) (s : State) : State :=
  match act with
  | .reset => hostReset s
  | .raise k => raiseRequest k s
  | .setMemory a v => setMemory a v s
  | .setKey v => setKey v s
  | .setMouse v => setMouse v s
  | .setMode b => setMode b s
  | .setIncOnMissing b => setIncOnMissing b s
  | .switchVersion v => switchVersion v s
  | .loadImage img => loadImage img s

end Sys2Proof.Machine
end

