-- ==== Sys2Proof/Safety.lean ====
section
/-! DEFINITION. What claims about runs are stated in: the invariants of the machine. -/

namespace Sys2Proof.Machine

/-- Both memories are in the canonical form. -/
def MemoryCanonical (s : State) : Prop := s.mem.wf = true ∧ s.backup.wf = true

/-- `*_SERVICE` values appear in cycle-accurate mode only (10_state.md R45). -/
def ServiceOnlyInCps (s : State) : Prop := ∀ k, s.pending = .service k → s.cfg.cycleMode = true

/-- The bounds of the cycle counter (10_state.md R47). R47 names 12, the largest count of the cycle table; a
skipped INVALID opcode costs `INVALID_CYCLES` (log 16). -/
def CounterBounded (s : State) : Prop :=
  s.curCycles ≤ max 12 s.cfg.invalidCycles + Config.intEntryCycles ∧ s.cycle ≤ s.curCycles ∧
    (0 < s.curCycles → s.cycle < s.curCycles)

/-- The active index register is X (10_state.md R34). -/
def IndexIsX (s : State) : Prop := s.curIndReg = .x

/-- The invariant of the machine: every tick keeps it, and so does every host action that obeys the
discipline of 60_exceptions.md R436. -/
structure Inv (s : State) : Prop where
  memory : MemoryCanonical s
  service : ServiceOnlyInCps s
  counter : CounterBounded s
  index : IndexIsX s

/-- The host's duty of R436: no switch to IPS, and no `step()`, while a `*_SERVICE` value is pending. -/
def HostDiscipline (act : HostAction) (s : State) : Prop :=
  act = .setMode false → ∀ k, s.pending ≠ .service k

end Sys2Proof.Machine
end

