-- ==== Sys2Proof/Certificates/Slice0/Obligations.lean ====
section
/-! DEFINITION. The statements for the provers. `Sys2Proof.Claims` holds the words they are stated in: the arithmetic
reading of results and flags, the shape of a table row, and the bytes a store leaves alone. -/

namespace Sys2Proof.Claims

open Sys2Proof.Machine

/-! ## Rows of the opcode table -/

/-- The bytes of an instruction and its cycle count on each variant; `none` where the variant does not have it. -/
def Row (i : Instr) (bytes : List Byte) (m6800 m6803 : Option Nat) : Prop :=
  encode i = bytes ∧ instrCycles .m6800 i = m6800 ∧ instrCycles .m6803 i = m6803

/-- The cycle counts of an instruction by mode; `none` where the variant does not have the form. -/
structure ModeCycles where
  imm : Option Nat
  dir : Option Nat
  ind : Option Nat
  ext : Option Nat

/-- No form on this variant. -/
def noForms : ModeCycles := ⟨none, none, none, none⟩

/-- The four rows of an instruction with an 8-bit source operand, all of one cycle class. -/
def Rows8 (i : Operand8 → Instr) (imm dir ind ext : Byte) : Prop :=
  ∀ (b : Byte) (w : Word),
    Row (i (.imm b)) [imm, b] (some 2) (some 2) ∧ Row (i (.mem (.dir b))) [dir, b] (some 3) (some 3) ∧
    Row (i (.mem (.ind b))) [ind, b] (some 5) (some 4) ∧
    Row (i (.mem (.ext w))) [ext, hiByte w, loByte w] (some 4) (some 4)

/-- The four rows of an instruction with a 16-bit source operand. -/
def Rows16 (i : Operand16 → Instr) (imm dir ind ext : Byte) (m6800 m6803 : ModeCycles) : Prop :=
  ∀ (b : Byte) (w : Word),
    Row (i (.imm w)) [imm, hiByte w, loByte w] m6800.imm m6803.imm ∧
    Row (i (.mem (.dir b))) [dir, b] m6800.dir m6803.dir ∧ Row (i (.mem (.ind b))) [ind, b] m6800.ind m6803.ind ∧
    Row (i (.mem (.ext w))) [ext, hiByte w, loByte w] m6800.ext m6803.ext

/-- The three rows of an instruction with a memory operand. -/
def RowsMem (i : MemOperand → Instr) (dir ind ext : Byte) (m6800 m6803 : ModeCycles) : Prop :=
  ∀ (b : Byte) (w : Word),
    Row (i (.dir b)) [dir, b] m6800.dir m6803.dir ∧ Row (i (.ind b)) [ind, b] m6800.ind m6803.ind ∧
    Row (i (.ext w)) [ext, hiByte w, loByte w] m6800.ext m6803.ext

/-- The two rows of an instruction with an IND and an EXT form. -/
def RowsIndExt (i : IndExt → Instr) (ind ext : Byte) (m6800 m6803 : ModeCycles) : Prop :=
  ∀ (b : Byte) (w : Word),
    Row (i (.ind b)) [ind, b] m6800.ind m6803.ind ∧ Row (i (.ext w)) [ext, hiByte w, loByte w] m6800.ext m6803.ext

/-- The rows of a read-modify-write operation: on A, on B, and on memory. -/
def RowsRmw (ia ib : Instr) (im : IndExt → Instr) (a b ind ext : Byte) : Prop :=
  Row ia [a] (some 2) (some 2) ∧ Row ib [b] (some 2) (some 2) ∧
    RowsIndExt im ind ext ⟨none, none, some 7, some 6⟩ ⟨none, none, some 6, some 6⟩

/-! ## The next state -/

/-- PC after an instruction that transfers no control: PC plus the length of its encoding. -/
def nextPc (i : Instr) (s : State) : Word := s.pc + BitVec.ofNat 16 (encode i).length

/-- Every byte of `t`'s memory is that of `s`, but the byte stored at `a`. -/
def StoredByte (s t : State) (a : Word) (v : Byte) : Prop :=
  ∀ b : Word, t.mem.read b = if b = a then v else s.mem.read b

/-- Every byte of `t`'s memory is that of `s`, but the high byte at `a` and the low byte at `a + 1` modulo 65,536. -/
def StoredWord (s t : State) (a v : Word) : Prop :=
  ∀ b : Word, t.mem.read b = if b = a then hiByte v else if b = a + 1 then loByte v else s.mem.read b

/-- A word pushed: the low byte at the old SP, the high byte below it, SP two lower, every other byte unchanged. -/
def PushedWord (s t : State) (v : Word) : Prop :=
  t.sp = s.sp - 2 ∧
  ∀ b : Word, t.mem.read b = if b = s.sp then loByte v else if b = s.sp - 1 then hiByte v else s.mem.read b

/-- The context frame of 60_exceptions.md R432 pushed with this return address, every other byte unchanged. -/
def FramePushed (s t : State) (ret : Word) : Prop :=
  t.sp = s.sp - 7 ∧
  t.mem.read s.sp = loByte ret ∧ t.mem.read (s.sp - 1) = hiByte ret ∧
  t.mem.read (s.sp - 2) = loByte s.ix ∧ t.mem.read (s.sp - 3) = hiByte s.ix ∧
  t.mem.read (s.sp - 4) = s.a ∧ t.mem.read (s.sp - 5) = s.b ∧ t.mem.read (s.sp - 6) = ccrByte s.ccr ∧
  ∀ b : Word, (∀ k < 7, b ≠ s.sp - BitVec.ofNat 16 k) → t.mem.read b = s.mem.read b

/-! ## Results and flags as numbers -/

/-- N and Z of a byte. -/
def signZero8 (r : Byte) (f : Ccr) : Ccr := { f with n := decide (128 ≤ r.toNat), z := decide (r.toNat = 0) }

/-- N and Z of a word. -/
def signZero16 (r : Word) (f : Ccr) : Ccr := { f with n := decide (32768 ≤ r.toNat), z := decide (r.toNat = 0) }

/-- N and Z of a byte, V cleared. -/
def movedFlags8 (r : Byte) (f : Ccr) : Ccr := { signZero8 r f with v := false }

/-- N and Z of a word, V cleared. -/
def movedFlags16 (r : Word) (f : Ccr) : Ccr := { signZero16 r f with v := false }

/-- The sum of two bytes and a carry in, modulo 256. -/
def sum8 (a b : Byte) (cin : Nat) : Byte := BitVec.ofNat 8 (a.toNat + b.toNat + cin)

/-- The flags of an 8-bit addition: H and C are carries out of bits 3 and 7, V is signed overflow. -/
def sumFlags8 (a b : Byte) (cin : Nat) (f : Ccr) : Ccr :=
  { signZero8 (sum8 a b cin) f with
    h := decide (16 ≤ a.toNat % 16 + b.toNat % 16 + cin)
    v := decide (a.toInt + b.toInt + cin < -128 ∨ 127 < a.toInt + b.toInt + cin)
    c := decide (256 ≤ a.toNat + b.toNat + cin) }

/-- The difference of two bytes and a borrow in, modulo 256. -/
def dif8 (a b : Byte) (bin : Nat) : Byte := BitVec.ofInt 8 ((a.toNat : Int) - b.toNat - bin)

/-- The flags of an 8-bit subtraction: C is the borrow, V is signed overflow; H is unchanged. -/
def difFlags8 (a b : Byte) (bin : Nat) (f : Ccr) : Ccr :=
  { signZero8 (dif8 a b bin) f with
    v := decide (a.toInt - b.toInt - bin < -128 ∨ 127 < a.toInt - b.toInt - bin)
    c := decide (a.toNat < b.toNat + bin) }

/-- The sum of two words modulo 65,536. -/
def sum16 (a b : Word) : Word := BitVec.ofNat 16 (a.toNat + b.toNat)

/-- The flags of a 16-bit addition; H is unchanged. -/
def sumFlags16 (a b : Word) (f : Ccr) : Ccr :=
  { signZero16 (sum16 a b) f with
    v := decide (a.toInt + b.toInt < -32768 ∨ 32767 < a.toInt + b.toInt)
    c := decide (65536 ≤ a.toNat + b.toNat) }

/-- The difference of two words modulo 65,536. -/
def dif16 (a b : Word) : Word := BitVec.ofInt 16 ((a.toNat : Int) - b.toNat)

/-- The flags of a 16-bit subtraction; H is unchanged. -/
def difFlags16 (a b : Word) (f : Ccr) : Ccr :=
  { signZero16 (dif16 a b) f with
    v := decide (a.toInt - b.toInt < -32768 ∨ 32767 < a.toInt - b.toInt)
    c := decide (a.toNat < b.toNat) }

/-- The flags of an 8-bit shift or rotate: C the bit shifted out, N and Z of the result, V = N xor C. -/
def shifted8 (out : Bool) (r : Byte) (f : Ccr) : Ccr :=
  { signZero8 r f with c := out, v := decide (128 ≤ r.toNat) != out }

/-- The flags of a 16-bit shift. -/
def shifted16 (out : Bool) (r : Word) (f : Ccr) : Ccr :=
  { signZero16 r f with c := out, v := decide (32768 ≤ r.toNat) != out }

/-- The three forms of a read-modify-write operation, given its result and its flags: on A, on B, and on the byte at EA. -/
def RmwForms (ia ib : Instr) (im : IndExt → Instr) (res : Byte → Ccr → Byte) (flags : Byte → Ccr → Ccr) : Prop :=
  ∀ s : State,
    exec ia s = .next { s with a := res s.a s.ccr, ccr := flags s.a s.ccr, pc := nextPc ia s } ∧
    exec ib s = .next { s with b := res s.b s.ccr, ccr := flags s.b s.ccr, pc := nextPc ib s } ∧
    ∀ m : IndExt, ∃ t, exec (im m) s = .next t ∧
      t = { s with mem := t.mem, ccr := flags (s.mem.read (ea (indExtMem m) s)) s.ccr, pc := nextPc (im m) s } ∧
      StoredByte s t (ea (indExtMem m) s) (res (s.mem.read (ea (indExtMem m) s)) s.ccr)

/-- A conditional branch: its row, and PC the target when `taken`, else the next instruction. -/
def BranchWhen (i : Byte → Instr) (op : Byte) (m6800 : Option Nat) (taken : Ccr → Bool) : Prop :=
  (∀ rel : Byte, Row (i rel) [op, rel] m6800 (some 3)) ∧
  ∀ (s : State) (rel : Byte), exec (i rel) s = .next { s with
    pc := if taken s.ccr then BitVec.ofInt 16 (s.pc.toNat + 2 + rel.toInt) else BitVec.ofNat 16 (s.pc.toNat + 2) }

/-! ## Decimal digits -/

/-- Both nibbles of a byte are decimal digits. -/
def IsBcd (x : Byte) : Prop := x.toNat / 16 ≤ 9 ∧ x.toNat % 16 ≤ 9

/-- The number two decimal digits stand for. -/
def bcdValue (x : Byte) : Nat := 10 * (x.toNat / 16) + x.toNat % 16

/-! ## Which instructions write what (10_state.md R38 to R43, R46) -/

/-- The instructions that write H (R43). -/
def writesH : Instr → Bool
  | .aba | .adda _ | .addb _ | .adca _ | .adcb _ | .tap | .rti => true
  | _ => false

/-- The instructions that write I (R42). -/
def writesI : Instr → Bool
  | .cli | .sei | .tap | .rti | .swi => true
  | _ => false

/-- The instructions that write C on a variant (R38). -/
def writesC (v : Variant) : Instr → Bool
  | .aba | .adda _ | .addb _ | .adca _ | .adcb _ | .sba | .suba _ | .subb _ | .sbca _ | .sbcb _ | .cba | .cmpa _ | .cmpb _
  | .nega | .negb | .neg _ | .coma | .comb | .com _ | .asla | .aslb | .asl _ | .asra | .asrb | .asr _ | .lsra | .lsrb | .lsr _
  | .rola | .rolb | .rol _ | .rora | .rorb | .ror _ | .tsta | .tstb | .tst _ | .clra | .clrb | .clr _ | .daa | .clc | .sec
  | .tap | .rti | .addd _ | .subd _ | .asld | .lsrd | .mul => true
  | .cpx _ => decide (v = .m6803)
  | _ => false

/-- The instructions that write N (R41): arithmetic, logic, load, store, compare, shift, rotate, increment, decrement,
TAB, TBA, DAA, TAP and RTI. -/
def writesN : Instr → Bool
  | .ldaa _ | .ldab _ | .staa _ | .stab _ | .lds _ | .ldx _ | .sts _ | .stx _ | .ldd _ | .std _ | .tab | .tba | .tap | .rti
  | .adda _ | .addb _ | .adca _ | .adcb _ | .suba _ | .subb _ | .sbca _ | .sbcb _ | .cmpa _ | .cmpb _ | .anda _ | .andb _
  | .bita _ | .bitb _ | .eora _ | .eorb _ | .oraa _ | .orab _ | .aba | .sba | .cba | .daa | .addd _ | .subd _ | .cpx _
  | .nega | .negb | .neg _ | .coma | .comb | .com _ | .lsra | .lsrb | .lsr _ | .rora | .rorb | .ror _ | .asra | .asrb | .asr _
  | .asla | .aslb | .asl _ | .rola | .rolb | .rol _ | .deca | .decb | .dec _ | .inca | .incb | .inc _ | .tsta | .tstb | .tst _
  | .clra | .clrb | .clr _ | .asld | .lsrd => true
  | _ => false

/-- The instructions that write Z: every instruction that writes N, and INX and DEX (R40). -/
def writesZ : Instr → Bool
  | .inx | .dex => true
  | i => writesN i

/-- The instructions that write V: every instruction that writes N, and CLV and SEV (R39). -/
def writesV : Instr → Bool
  | .clv | .sev => true
  | i => writesN i

/-- The instructions that write memory (20_memory.md R81). -/
def writesMemory : Instr → Bool
  | .staa _ | .stab _ | .sts _ | .stx _ | .std _ | .psha | .pshb | .pshx
  | .neg _ | .com _ | .lsr _ | .ror _ | .asr _ | .asl _ | .rol _ | .dec _ | .inc _ | .clr _ | .bsr _ | .jsr _ | .swi | .wai => true
  | _ => false

/-- The control transfers, whose rules write PC themselves (40_decode_dispatch.md R150). -/
def transfersControl : Instr → Bool
  | .bra _ | .brn _ | .bhi _ | .bls _ | .bcc _ | .bcs _ | .bne _ | .beq _ | .bvc _ | .bvs _ | .bpl _ | .bmi _ | .bge _ | .blt _
  | .bgt _ | .ble _ | .bsr _ | .jmp _ | .jsr _ | .rts | .rti | .swi => true
  | _ => false

/-! ## Ticks -/

/-- The instruction the bytes at PC hold, on the current variant (40_decode_dispatch.md R148). -/
def At (s : State) (i : Instr) : Prop :=
  ∃ rest, decode s.cfg.variant [s.mem.read s.pc, s.mem.read (s.pc + 1), s.mem.read (s.pc + 2)] = .ok (i, rest)

/-- The cycles the instruction occupies: its count on the variant, or `INVALID_CYCLES` where it has none. -/
def cyclesOf (i : Instr) (s : State) : Nat := (instrCycles s.cfg.variant i).getD s.cfg.invalidCycles

/-- A CPS tick from this state is a dispatch point (60_exceptions.md R428). -/
def AtDispatchPoint (s : State) : Prop := s.curCycles ≤ s.cycle + 1

/-- `n` ticks, ending at the first that stops. -/
def ticks : Nat → State → Result
  | 0, s => .next s
  | n + 1, s =>
    match step s with
    | .next t => ticks n t
    | .fault e => .fault e
    | .refused q => .refused q

/-- The address of a request's vector (20_memory.md R84). -/
def vectorAddress : Request → Word
  | .rst => 0xFFFE
  | .nmi => 0xFFFC
  | .irq => 0xFFF8

/-- `t` is `s` after `Service(k)` and nothing else, but for `pending` and the counters (60_exceptions.md R433). -/
def Serviced (k : Request) (s t : State) : Prop :=
  t = { s with mem := t.mem, sp := t.sp, ccr := { s.ccr with i := true }, pc := t.mem.read16 (vectorAddress k), wai := false,
               pending := t.pending, cycle := t.cycle, curCycles := t.curCycles } ∧
  (s.wai = false → FramePushed s t s.pc) ∧ (s.wai = true → t.mem = s.mem ∧ t.sp = s.sp)

/-- The tick from this state dispatches the instruction at PC (60_exceptions.md R425, R428). -/
def Dispatches (s : State) : Prop :=
  s.wai = false ∧
  (s.cfg.cycleMode = false → s.pending = .none ∨ (s.pending = .request .irq ∧ s.ccr.i = true)) ∧
  (s.cfg.cycleMode = true → AtDispatchPoint s ∧ ∀ k, s.pending ≠ .service k)

/-- The states of runs from reset: steps, host actions that keep the discipline of 60_exceptions.md R436, and the host's
`step()` where it is not fatal. -/
inductive Reachable : State → Prop where
  | reset : Reachable State.reset
  | step {s t : State} : Reachable s → Machine.step s = .next t → Reachable t
  | action {s : State} (act : HostAction) : Reachable s → HostDiscipline act s → Reachable (applyAction act s)
  | hostStep {s t : State} : Reachable s → (∀ k, s.pending ≠ .service k) → Machine.hostStep s = .next t → Reachable t

end Sys2Proof.Claims

open Sys2Proof Sys2Proof.Machine Sys2Proof.Claims

/-! # Encoding -/

/-- The worked encodings of 30_encoding.md R102 to R108. -/
def Obligations.WrittenWordsDecode : Prop :=
  decode .m6800 [0b00011011] = .ok (.aba, []) ∧
  decode .m6800 [0b10000110, 0b00000101] = .ok (.ldaa (.imm 0x05), []) ∧
  decode .m6800 [0b11001110, 0b00010010, 0b00110100] = .ok (.ldx (.imm 0x1234), []) ∧
  decode .m6800 [0b10010111, 0b00100000] = .ok (.staa (.dir 0x20), []) ∧
  decode .m6800 [0b10100110, 0b00000101] = .ok (.ldaa (.mem (.ind 0x05)), []) ∧
  decode .m6800 [0b10110110, 0b00010010, 0b00110100] = .ok (.ldaa (.mem (.ext 0x1234)), []) ∧
  decode .m6800 [0b00100000, 0b01111101] = .ok (.bra 0x7D, []) ∧
  decode .m6800 [0b01100000, 0b00000101] = .ok (.neg (.ind 0x05), []) ∧
  decode .m6800 [0b00111111] = .ok (.swi, []) ∧
  decode .m6800 [0b11011101, 0b00110000] = .ok (.invalid 0xDD, [0b00110000]) ∧
  decode .m6803 [0b11011101, 0b00110000] = .ok (.std (.dir 0x30), [])

/-- Every instruction a variant has decodes from its encoding, with every operand at every value. -/
def Obligations.DecodeOfEncodeIsTheInstruction : Prop :=
  ∀ (v : Variant) (i : Instr) (rest : List Byte), WellFormed v i = true → decode v (encode i ++ rest) = .ok (i, rest)

/-- Whatever the decoder reads, the variant has, and its encoding is the bytes that were read: no byte has two readings. -/
def Obligations.EncodeOfDecodeIsTheBytes : Prop :=
  ∀ (v : Variant) (bytes rest : List Byte) (i : Instr), decode v bytes = .ok (i, rest) →
    WellFormed v i = true ∧ encode i ++ rest = bytes

/-- R109: the opcode byte alone gives the length, one for an INVALID opcode. That a list decodes exactly when it is that long,
and is refused as truncated otherwise, is the model's decoder (log 12), of which R109 says nothing. -/
def Obligations.LengthComesFromTheOpcode : Prop :=
  ∀ (v : Variant) (op : Byte) (more : List Byte),
    (1 ≤ opcodeLength v op ∧ opcodeLength v op ≤ 3) ∧
    (op ∈ invalidOpcodes v → opcodeLength v op = 1) ∧
    (opcodeLength v op ≤ more.length + 1 → ∃ i rest, decode v (op :: more) = .ok (i, rest) ∧
      (encode i).length = opcodeLength v op ∧ rest = more.drop (opcodeLength v op - 1)) ∧
    (more.length + 1 < opcodeLength v op → decode v (op :: more) = .error (.truncated op))

/-- R115, R116: an opcode decodes as INVALID on a variant exactly when it is in the variant's list, of 59 and 36 values. -/
def Obligations.InvalidOpcodesOfEachVariant : Prop :=
  (∀ (v : Variant) (op : Byte) (rest : List Byte),
    decode v (op :: rest) = .ok (.invalid op, rest) ↔ op ∈ invalidOpcodes v) ∧
  invalidOnM6800.length = 59 ∧ invalidOnM6803.length = 36 ∧ invalidOnM6800.Nodup ∧ invalidOnM6803.Nodup

/-- R118: the M6803 adds these 23 opcodes, and removes none. -/
def Obligations.M6803AddsTwentyThreeOpcodes : Prop :=
  (∀ op : Byte, (op ∈ invalidOnM6800 ∧ op ∉ invalidOnM6803) ↔
    op ∈ ([0x04, 0x05, 0x21, 0x38, 0x3A, 0x3C, 0x3D, 0x83, 0x93, 0xA3, 0xB3, 0xC3, 0xD3, 0xE3, 0xF3, 0xCC, 0xDC, 0xEC, 0xFC,
      0xDD, 0xED, 0xFD, 0x9D] : List Byte)) ∧
  (∀ (bytes rest : List Byte) (i : Instr), decode .m6800 bytes = .ok (i, rest) → (∀ op, i ≠ .invalid op) →
    decode .m6803 bytes = .ok (i, rest)) ∧
  (∀ (bytes rest : List Byte) (i : Instr), decode .m6803 bytes = .ok (i, rest) → m6803Only i = true →
    ∃ op more, bytes = op :: more ∧ decode .m6800 bytes = .ok (.invalid op, more)) ∧
  encode .lsrd = [0x04] ∧ encode .asld = [0x05] ∧ (∀ rel, encode (.brn rel) = [0x21, rel]) ∧ encode .pulx = [0x38] ∧
  encode .abx = [0x3A] ∧ encode .pshx = [0x3C] ∧ encode .mul = [0x3D] ∧
  (∀ o, (encode (.subd o)).head? ∈ ([some 0x83, some 0x93, some 0xA3, some 0xB3] : List (Option Byte))) ∧
  (∀ o, (encode (.addd o)).head? ∈ ([some 0xC3, some 0xD3, some 0xE3, some 0xF3] : List (Option Byte))) ∧
  (∀ o, (encode (.ldd o)).head? ∈ ([some 0xCC, some 0xDC, some 0xEC, some 0xFC] : List (Option Byte))) ∧
  (∀ m, (encode (.std m)).head? ∈ ([some 0xDD, some 0xED, some 0xFD] : List (Option Byte))) ∧
  (∀ d, encode (.jsr (.dir d)) = [0x9D, d])

/-! # Memory, stack, operands, flags -/

/-- R73, R74, R75: 16-bit access is big-endian, byte by byte, and wraps from 0xFFFF to 0x0000. -/
def Obligations.SixteenBitAccessIsBigEndian : Prop :=
  ∀ (m : Memory) (a b : Word) (x : Byte) (v : Word),
    (m.read16 a).toNat = 256 * (m.read a).toNat + (m.read (BitVec.ofNat 16 (a.toNat + 1))).toNat ∧
    (m.write a x).read b = (if b.toNat = a.toNat then x else m.read b) ∧
    ((m.write16 a v).read b).toNat =
      (if b.toNat = a.toNat then v.toNat / 256
       else if b.toNat = (a.toNat + 1) % 65536 then v.toNat % 256 else (m.read b).toNat) ∧
    (m.write16 a v).read16 a = v

/-- Memories in the canonical form that read alike are equal data (the model's representation, log 2). -/
def Obligations.EqualReadsMakeEqualMemories : Prop :=
  ∀ m n : Memory, m.wf = true → n.wf = true → (∀ a : Word, m.read a = n.read a) → m = n

/-- R78, R79, R80: the stack primitives, and a pull undoes a push. -/
def Obligations.StackPrimitives : Prop :=
  ∀ (s : State) (x : Byte) (v : Word),
    ((push8 x s).sp.toNat = (s.sp.toNat + 65535) % 65536 ∧ StoredByte s (push8 x s) s.sp x ∧
      push8 x s = { s with mem := (push8 x s).mem, sp := (push8 x s).sp }) ∧
    ((pull8 s).2.sp.toNat = (s.sp.toNat + 1) % 65536 ∧ (pull8 s).1 = s.mem.read (s.sp + 1) ∧
      (pull8 s).2 = { s with sp := (pull8 s).2.sp }) ∧
    (PushedWord s (push16 v s) v ∧ push16 v s = { s with mem := (push16 v s).mem, sp := (push16 v s).sp } ∧
      (push16 v s).mem.read16 ((push16 v s).sp + 1) = v) ∧
    ((pull16 s).1.toNat = 256 * (s.mem.read (s.sp + 1)).toNat + (s.mem.read (s.sp + 2)).toNat ∧
      (pull16 s).2 = { s with sp := s.sp + 2 }) ∧
    pull8 (push8 x s) = (x, { s with mem := (push8 x s).mem }) ∧
    pull16 (push16 v s) = (v, { s with mem := (push16 v s).mem })

/-- R144 to R147, R153: the effective address, the operand and the length of each mode. -/
def Obligations.EffectiveAddressesOfTheModes : Prop :=
  ∀ (s : State) (d : Byte) (w : Word) (m : MemOperand),
    (ea (.dir d) s).toNat = d.toNat ∧ memLen (.dir d) = 2 ∧
    (ea (.ind d) s).toNat = (s.ix.toNat + d.toNat) % 65536 ∧ memLen (.ind d) = 2 ∧
    ea (.ext w) s = w ∧ memLen (.ext w) = 3 ∧
    ((relTarget d s).toNat : Int) = (s.pc.toNat + 2 + d.toInt) % 65536 ∧
    op8 (.imm d) s = d ∧ len8 (.imm d) = 2 ∧ op8 (.mem m) s = s.mem.read (ea m s) ∧ len8 (.mem m) = memLen m ∧
    op16 (.imm w) s = w ∧ len16 (.imm w) = 3 ∧ len16 (.mem m) = memLen m ∧
    (op16 (.mem m) s).toNat =
      256 * (s.mem.read (ea m s)).toNat + (s.mem.read (BitVec.ofNat 16 ((ea m s).toNat + 1))).toNat

/-- R162 to R165: the results and flags of Add8, Sub8, Add16 and Sub16 are those of the exact sum or difference. -/
def Obligations.AdditionAndSubtractionFlags : Prop :=
  (∀ (a b : Byte) (cin : Bool) (f : Ccr),
    add8 a b cin = sum8 a b cin.toNat ∧ addFlags8 a b (add8 a b cin) f = sumFlags8 a b cin.toNat f ∧
    sub8 a b cin = dif8 a b cin.toNat ∧ subFlags8 a b (sub8 a b cin) f = difFlags8 a b cin.toNat f) ∧
  (∀ (a b : Word) (f : Ccr),
    a + b = sum16 a b ∧ addFlags16 a b (a + b) f = sumFlags16 a b f ∧
    a - b = dif16 a b ∧ subFlags16 a b (a - b) f = difFlags16 a b f)

/-- R36, R37: the bits of the CCR byte, bits 7 and 6 always 1, and a whole write keeps every flag and forces them. -/
def Obligations.ConditionCodeByteLayout : Prop :=
  (∀ f : Ccr, (ccrByte f).getLsbD 0 = f.c ∧ (ccrByte f).getLsbD 1 = f.v ∧ (ccrByte f).getLsbD 2 = f.z ∧
    (ccrByte f).getLsbD 3 = f.n ∧ (ccrByte f).getLsbD 4 = f.i ∧ (ccrByte f).getLsbD 5 = f.h ∧
    (ccrByte f).getLsbD 6 = true ∧ (ccrByte f).getLsbD 7 = true ∧ ccrOfByte (ccrByte f) = f) ∧
  (∀ x : Byte, ccrByte (ccrOfByte x) = x ||| 0xC0)

/-- What ten of the conditions of R169 say after a compare of two bytes: the unsigned and the signed order. -/
def Obligations.ConditionsAfterACompare : Prop :=
  ∀ (a b : Byte) (f : Ccr),
    condHolds .hi (subFlags8 a b (sub8 a b false) f) = decide (b.toNat < a.toNat) ∧
    condHolds .ls (subFlags8 a b (sub8 a b false) f) = decide (a.toNat ≤ b.toNat) ∧
    condHolds .cc (subFlags8 a b (sub8 a b false) f) = decide (b.toNat ≤ a.toNat) ∧
    condHolds .cs (subFlags8 a b (sub8 a b false) f) = decide (a.toNat < b.toNat) ∧
    condHolds .ne (subFlags8 a b (sub8 a b false) f) = decide (a ≠ b) ∧
    condHolds .eq (subFlags8 a b (sub8 a b false) f) = decide (a = b) ∧
    condHolds .ge (subFlags8 a b (sub8 a b false) f) = decide (b.toInt ≤ a.toInt) ∧
    condHolds .lt (subFlags8 a b (sub8 a b false) f) = decide (a.toInt < b.toInt) ∧
    condHolds .gt (subFlags8 a b (sub8 a b false) f) = decide (b.toInt < a.toInt) ∧
    condHolds .le (subFlags8 a b (sub8 a b false) f) = decide (a.toInt ≤ b.toInt)

/-! # Loads, stores, transfers, stack -/

/-- R200, R201: LDAA, LDAB. -/
def Obligations.AccumulatorLoads : Prop :=
  Rows8 .ldaa 0x86 0x96 0xA6 0xB6 ∧ Rows8 .ldab 0xC6 0xD6 0xE6 0xF6 ∧
  ∀ (s : State) (o : Operand8),
    exec (.ldaa o) s =
      .next { s with a := op8 o s, ccr := movedFlags8 (op8 o s) s.ccr, pc := nextPc (.ldaa o) s } ∧
    exec (.ldab o) s =
      .next { s with b := op8 o s, ccr := movedFlags8 (op8 o s) s.ccr, pc := nextPc (.ldab o) s }

/-- R202, R203: STAA, STAB. -/
def Obligations.AccumulatorStores : Prop :=
  RowsMem .staa 0x97 0xA7 0xB7 ⟨none, some 4, some 6, some 5⟩ ⟨none, some 3, some 4, some 4⟩ ∧
  RowsMem .stab 0xD7 0xE7 0xF7 ⟨none, some 4, some 6, some 5⟩ ⟨none, some 3, some 4, some 4⟩ ∧
  ∀ (s : State) (m : MemOperand),
    (∃ t, exec (.staa m) s = .next t ∧
      t = { s with mem := t.mem, ccr := movedFlags8 s.a s.ccr, pc := nextPc (.staa m) s } ∧ StoredByte s t (ea m s) s.a) ∧
    (∃ t, exec (.stab m) s = .next t ∧
      t = { s with mem := t.mem, ccr := movedFlags8 s.b s.ccr, pc := nextPc (.stab m) s } ∧ StoredByte s t (ea m s) s.b)

/-- R204, R205, R208: LDS, LDX, LDD. -/
def Obligations.WordLoads : Prop :=
  Rows16 .lds 0x8E 0x9E 0xAE 0xBE ⟨some 3, some 4, some 6, some 5⟩ ⟨some 3, some 4, some 5, some 5⟩ ∧
  Rows16 .ldx 0xCE 0xDE 0xEE 0xFE ⟨some 3, some 4, some 6, some 5⟩ ⟨some 3, some 4, some 5, some 5⟩ ∧
  Rows16 .ldd 0xCC 0xDC 0xEC 0xFC noForms ⟨some 3, some 4, some 5, some 5⟩ ∧
  ∀ (s : State) (o : Operand16),
    exec (.lds o) s =
      .next { s with sp := op16 o s, ccr := movedFlags16 (op16 o s) s.ccr, pc := nextPc (.lds o) s } ∧
    exec (.ldx o) s =
      .next { s.setIx (op16 o s) with ccr := movedFlags16 (op16 o s) s.ccr, pc := nextPc (.ldx o) s } ∧
    exec (.ldd o) s =
      .next { s with a := BitVec.ofNat 8 ((op16 o s).toNat / 256), b := BitVec.ofNat 8 (op16 o s).toNat,
                     ccr := movedFlags16 (op16 o s) s.ccr, pc := nextPc (.ldd o) s }

/-- R206, R207, R209: STS, STX, STD. -/
def Obligations.WordStores : Prop :=
  RowsMem .sts 0x9F 0xAF 0xBF ⟨none, some 5, some 7, some 6⟩ ⟨none, some 4, some 5, some 5⟩ ∧
  RowsMem .stx 0xDF 0xEF 0xFF ⟨none, some 5, some 7, some 6⟩ ⟨none, some 4, some 5, some 5⟩ ∧
  RowsMem .std 0xDD 0xED 0xFD noForms ⟨none, some 4, some 5, some 5⟩ ∧
  ∀ (s : State) (m : MemOperand),
    (∃ t, exec (.sts m) s = .next t ∧
      t = { s with mem := t.mem, ccr := movedFlags16 s.sp s.ccr, pc := nextPc (.sts m) s } ∧ StoredWord s t (ea m s) s.sp) ∧
    (∃ t, exec (.stx m) s = .next t ∧
      t = { s with mem := t.mem, ccr := movedFlags16 s.ix s.ccr, pc := nextPc (.stx m) s } ∧ StoredWord s t (ea m s) s.ix) ∧
    (∃ t d, d = BitVec.ofNat 16 (256 * s.a.toNat + s.b.toNat) ∧ exec (.std m) s = .next t ∧
      t = { s with mem := t.mem, ccr := movedFlags16 d s.ccr, pc := nextPc (.std m) s } ∧ StoredWord s t (ea m s) d)

/-- R210 to R215: TAB, TBA, TAP, TPA, TSX, TXS. -/
def Obligations.RegisterTransfers : Prop :=
  (Row .tab [0x16] (some 2) (some 2) ∧ Row .tba [0x17] (some 2) (some 2) ∧ Row .tap [0x06] (some 2) (some 2) ∧
    Row .tpa [0x07] (some 2) (some 2) ∧ Row .tsx [0x30] (some 4) (some 3) ∧ Row .txs [0x35] (some 4) (some 3)) ∧
  ∀ s : State,
    exec .tab s = .next { s with b := s.a, ccr := movedFlags8 s.a s.ccr, pc := nextPc .tab s } ∧
    exec .tba s = .next { s with a := s.b, ccr := movedFlags8 s.b s.ccr, pc := nextPc .tba s } ∧
    (∃ t, exec .tap s = .next t ∧ t = { s with ccr := t.ccr, pc := nextPc .tap s } ∧ ccrByte t.ccr = s.a ||| 0xC0) ∧
    exec .tpa s = .next { s with a := ccrByte s.ccr ||| 0xC0, pc := nextPc .tpa s } ∧
    exec .tsx s = .next { s.setIx (BitVec.ofNat 16 (s.sp.toNat + 1)) with pc := nextPc .tsx s } ∧
    exec .txs s = .next { s with sp := BitVec.ofInt 16 ((s.ix.toNat : Int) - 1), pc := nextPc .txs s }

/-- R216 to R221: PSHA, PSHB, PULA, PULB, PSHX, PULX. -/
def Obligations.PushesAndPulls : Prop :=
  (Row .psha [0x36] (some 4) (some 3) ∧ Row .pshb [0x37] (some 4) (some 3) ∧ Row .pula [0x32] (some 4) (some 4) ∧
    Row .pulb [0x33] (some 4) (some 4) ∧ Row .pshx [0x3C] none (some 4) ∧ Row .pulx [0x38] none (some 5)) ∧
  ∀ s : State,
    (∃ t, exec .psha s = .next t ∧ t = { s with mem := t.mem, sp := s.sp - 1, pc := nextPc .psha s } ∧
      StoredByte s t s.sp s.a) ∧
    (∃ t, exec .pshb s = .next t ∧ t = { s with mem := t.mem, sp := s.sp - 1, pc := nextPc .pshb s } ∧
      StoredByte s t s.sp s.b) ∧
    exec .pula s = .next { s with a := s.mem.read (s.sp + 1), sp := s.sp + 1, pc := nextPc .pula s } ∧
    exec .pulb s = .next { s with b := s.mem.read (s.sp + 1), sp := s.sp + 1, pc := nextPc .pulb s } ∧
    (∃ t, exec .pshx s = .next t ∧ t = { s with mem := t.mem, sp := t.sp, pc := nextPc .pshx s } ∧
      PushedWord s t s.ix ∧ t.mem.read16 (t.sp + 1) = s.ix) ∧
    exec .pulx s = .next { s.setIx (s.mem.read16 (s.sp + 1)) with sp := s.sp + 2, pc := nextPc .pulx s }

/-! # Arithmetic, logic, compare -/

/-- R240 to R243, R258: ADDA, ADDB, ADCA, ADCB, ABA. -/
def Obligations.AccumulatorAdditions : Prop :=
  (Rows8 .adda 0x8B 0x9B 0xAB 0xBB ∧ Rows8 .addb 0xCB 0xDB 0xEB 0xFB ∧ Rows8 .adca 0x89 0x99 0xA9 0xB9 ∧
    Rows8 .adcb 0xC9 0xD9 0xE9 0xF9 ∧ Row .aba [0x1B] (some 2) (some 2)) ∧
  ∀ (s : State) (o : Operand8),
    exec (.adda o) s = .next { s with a := sum8 s.a (op8 o s) 0, ccr := sumFlags8 s.a (op8 o s) 0 s.ccr,
                                      pc := nextPc (.adda o) s } ∧
    exec (.addb o) s = .next { s with b := sum8 s.b (op8 o s) 0, ccr := sumFlags8 s.b (op8 o s) 0 s.ccr,
                                      pc := nextPc (.addb o) s } ∧
    exec (.adca o) s = .next { s with a := sum8 s.a (op8 o s) s.ccr.c.toNat,
                                      ccr := sumFlags8 s.a (op8 o s) s.ccr.c.toNat s.ccr, pc := nextPc (.adca o) s } ∧
    exec (.adcb o) s = .next { s with b := sum8 s.b (op8 o s) s.ccr.c.toNat,
                                      ccr := sumFlags8 s.b (op8 o s) s.ccr.c.toNat s.ccr, pc := nextPc (.adcb o) s } ∧
    exec .aba s = .next { s with a := sum8 s.a s.b 0, ccr := sumFlags8 s.a s.b 0 s.ccr, pc := nextPc .aba s }

/-- R244 to R247, R259: SUBA, SUBB, SBCA, SBCB, SBA. -/
def Obligations.AccumulatorSubtractions : Prop :=
  (Rows8 .suba 0x80 0x90 0xA0 0xB0 ∧ Rows8 .subb 0xC0 0xD0 0xE0 0xF0 ∧ Rows8 .sbca 0x82 0x92 0xA2 0xB2 ∧
    Rows8 .sbcb 0xC2 0xD2 0xE2 0xF2 ∧ Row .sba [0x10] (some 2) (some 2)) ∧
  ∀ (s : State) (o : Operand8),
    exec (.suba o) s = .next { s with a := dif8 s.a (op8 o s) 0, ccr := difFlags8 s.a (op8 o s) 0 s.ccr,
                                      pc := nextPc (.suba o) s } ∧
    exec (.subb o) s = .next { s with b := dif8 s.b (op8 o s) 0, ccr := difFlags8 s.b (op8 o s) 0 s.ccr,
                                      pc := nextPc (.subb o) s } ∧
    exec (.sbca o) s = .next { s with a := dif8 s.a (op8 o s) s.ccr.c.toNat,
                                      ccr := difFlags8 s.a (op8 o s) s.ccr.c.toNat s.ccr, pc := nextPc (.sbca o) s } ∧
    exec (.sbcb o) s = .next { s with b := dif8 s.b (op8 o s) s.ccr.c.toNat,
                                      ccr := difFlags8 s.b (op8 o s) s.ccr.c.toNat s.ccr, pc := nextPc (.sbcb o) s } ∧
    exec .sba s = .next { s with a := dif8 s.a s.b 0, ccr := difFlags8 s.a s.b 0 s.ccr, pc := nextPc .sba s }

/-- R248, R249, R260: CMPA, CMPB, CBA write flags only. -/
def Obligations.AccumulatorCompares : Prop :=
  (Rows8 .cmpa 0x81 0x91 0xA1 0xB1 ∧ Rows8 .cmpb 0xC1 0xD1 0xE1 0xF1 ∧ Row .cba [0x11] (some 2) (some 2)) ∧
  ∀ (s : State) (o : Operand8),
    exec (.cmpa o) s = .next { s with ccr := difFlags8 s.a (op8 o s) 0 s.ccr, pc := nextPc (.cmpa o) s } ∧
    exec (.cmpb o) s = .next { s with ccr := difFlags8 s.b (op8 o s) 0 s.ccr, pc := nextPc (.cmpb o) s } ∧
    exec .cba s = .next { s with ccr := difFlags8 s.a s.b 0 s.ccr, pc := nextPc .cba s }

/-- R250 to R257: ANDA, ANDB, BITA, BITB, EORA, EORB, ORAA, ORAB, each result given bit by bit. -/
def Obligations.LogicAndBitTests : Prop :=
  (Rows8 .anda 0x84 0x94 0xA4 0xB4 ∧ Rows8 .andb 0xC4 0xD4 0xE4 0xF4 ∧ Rows8 .bita 0x85 0x95 0xA5 0xB5 ∧
    Rows8 .bitb 0xC5 0xD5 0xE5 0xF5 ∧ Rows8 .eora 0x88 0x98 0xA8 0xB8 ∧ Rows8 .eorb 0xC8 0xD8 0xE8 0xF8 ∧
    Rows8 .oraa 0x8A 0x9A 0xAA 0xBA ∧ Rows8 .orab 0xCA 0xDA 0xEA 0xFA) ∧
  ∀ (s : State) (o : Operand8),
    (∃ r : Byte, (∀ k, r.getLsbD k = (s.a.getLsbD k && (op8 o s).getLsbD k)) ∧
      exec (.anda o) s = .next { s with a := r, ccr := movedFlags8 r s.ccr, pc := nextPc (.anda o) s } ∧
      exec (.bita o) s = .next { s with ccr := movedFlags8 r s.ccr, pc := nextPc (.bita o) s }) ∧
    (∃ r : Byte, (∀ k, r.getLsbD k = (s.b.getLsbD k && (op8 o s).getLsbD k)) ∧
      exec (.andb o) s = .next { s with b := r, ccr := movedFlags8 r s.ccr, pc := nextPc (.andb o) s } ∧
      exec (.bitb o) s = .next { s with ccr := movedFlags8 r s.ccr, pc := nextPc (.bitb o) s }) ∧
    (∃ r : Byte, (∀ k, r.getLsbD k = (s.a.getLsbD k != (op8 o s).getLsbD k)) ∧
      exec (.eora o) s = .next { s with a := r, ccr := movedFlags8 r s.ccr, pc := nextPc (.eora o) s }) ∧
    (∃ r : Byte, (∀ k, r.getLsbD k = (s.b.getLsbD k != (op8 o s).getLsbD k)) ∧
      exec (.eorb o) s = .next { s with b := r, ccr := movedFlags8 r s.ccr, pc := nextPc (.eorb o) s }) ∧
    (∃ r : Byte, (∀ k, r.getLsbD k = (s.a.getLsbD k || (op8 o s).getLsbD k)) ∧
      exec (.oraa o) s = .next { s with a := r, ccr := movedFlags8 r s.ccr, pc := nextPc (.oraa o) s }) ∧
    (∃ r : Byte, (∀ k, r.getLsbD k = (s.b.getLsbD k || (op8 o s).getLsbD k)) ∧
      exec (.orab o) s = .next { s with b := r, ccr := movedFlags8 r s.ccr, pc := nextPc (.orab o) s })

/-- R261, R262, R263: DAA on every input by the closed formula, and the rows of the correction table by C, the upper nibble,
H and the lower nibble before. V is a draw, about which nothing is said. The counter of draws
is the model's (log 8), and the formula off the table is the spec's decision D10 (R263, log 9). -/
def Obligations.DecimalAdjust : Prop :=
  Row .daa [0x19] (some 2) (some 2) ∧
  ∀ s : State, ∃ (lo hi cf : Nat) (draw c' : Bool) (r : Byte),
    lo = s.a.toNat % 16 ∧ hi = s.a.toNat / 16 ∧
    cf = (if s.ccr.h = true ∨ lo > 9 then 6 else 0) + (if s.ccr.c = true ∨ hi > 9 ∨ (hi > 8 ∧ lo > 9) then 96 else 0) ∧
    r.toNat = (s.a.toNat + cf) % 256 ∧ c' = (s.ccr.c || decide (96 ≤ cf)) ∧
    exec .daa s = .next { s with
      a := r, ccr := { signZero8 r s.ccr with v := draw, c := c' }, pc := nextPc .daa s, draws := s.draws + 1 } ∧
    (s.ccr.c = false → hi ≤ 9 → s.ccr.h = false → lo ≤ 9 → cf = 0x00 ∧ c' = false) ∧
    (s.ccr.c = false → hi ≤ 8 → s.ccr.h = false → 10 ≤ lo → cf = 0x06 ∧ c' = false) ∧
    (s.ccr.c = false → hi ≤ 9 → s.ccr.h = true → lo ≤ 3 → cf = 0x06 ∧ c' = false) ∧
    (s.ccr.c = false → 10 ≤ hi → s.ccr.h = false → lo ≤ 9 → cf = 0x60 ∧ c' = true) ∧
    (s.ccr.c = false → 9 ≤ hi → s.ccr.h = false → 10 ≤ lo → cf = 0x66 ∧ c' = true) ∧
    (s.ccr.c = false → 10 ≤ hi → s.ccr.h = true → lo ≤ 3 → cf = 0x66 ∧ c' = true) ∧
    (s.ccr.c = true → hi ≤ 2 → s.ccr.h = false → lo ≤ 9 → cf = 0x60 ∧ c' = true) ∧
    (s.ccr.c = true → hi ≤ 2 → s.ccr.h = false → 10 ≤ lo → cf = 0x66 ∧ c' = true) ∧
    (s.ccr.c = true → hi ≤ 3 → s.ccr.h = true → lo ≤ 3 → cf = 0x66 ∧ c' = true)

/-- After an addition of two BCD bytes and a carry, DAA leaves the BCD digits of the decimal sum, and C the hundred. -/
def Obligations.DecimalAdjustGivesTheDecimalSum : Prop :=
  ∀ (x y : Byte) (cin draw : Bool) (f : Ccr), IsBcd x → IsBcd y →
    IsBcd (daaOp (add8 x y cin) draw (addFlags8 x y (add8 x y cin) f)).1 ∧
    bcdValue (daaOp (add8 x y cin) draw (addFlags8 x y (add8 x y cin) f)).1 =
      (bcdValue x + bcdValue y + cin.toNat) % 100 ∧
    (daaOp (add8 x y cin) draw (addFlags8 x y (add8 x y cin) f)).2.c =
      decide (100 ≤ bcdValue x + bcdValue y + cin.toNat)

/-- R264, R265: ADDD, SUBD on D = A:B. -/
def Obligations.WordAddAndSubtract : Prop :=
  Rows16 .addd 0xC3 0xD3 0xE3 0xF3 noForms ⟨some 4, some 5, some 6, some 6⟩ ∧
  Rows16 .subd 0x83 0x93 0xA3 0xB3 noForms ⟨some 4, some 5, some 6, some 6⟩ ∧
  ∀ (s : State) (o : Operand16), ∃ d : Word, d.toNat = 256 * s.a.toNat + s.b.toNat ∧
    exec (.addd o) s = .next { s with
      a := hiByte (sum16 d (op16 o s)), b := loByte (sum16 d (op16 o s)), ccr := sumFlags16 d (op16 o s) s.ccr,
      pc := nextPc (.addd o) s } ∧
    exec (.subd o) s = .next { s with
      a := hiByte (dif16 d (op16 o s)), b := loByte (dif16 d (op16 o s)), ccr := difFlags16 d (op16 o s) s.ccr,
      pc := nextPc (.subd o) s }

/-- R266: CPX on each variant: on the M6800, N and V from the high bytes alone, Z from all 16 bits, C unchanged. -/
def Obligations.CompareIndexRegister : Prop :=
  Rows16 .cpx 0x8C 0x9C 0xAC 0xBC ⟨some 3, some 4, some 6, some 5⟩ ⟨some 4, some 5, some 6, some 6⟩ ∧
  ∀ (s : State) (o : Operand16),
    (s.cfg.variant = .m6803 →
      exec (.cpx o) s = .next { s with ccr := difFlags16 s.ix (op16 o s) s.ccr, pc := nextPc (.cpx o) s }) ∧
    (s.cfg.variant = .m6800 → exec (.cpx o) s = .next { s with
      ccr := { difFlags8 (hiByte s.ix) (hiByte (op16 o s)) 0 s.ccr with
               z := decide (s.ix.toNat = (op16 o s).toNat), c := s.ccr.c },
      pc := nextPc (.cpx o) s })

/-- R267: MUL. -/
def Obligations.MultiplyAccumulators : Prop :=
  Row .mul [0x3D] none (some 10) ∧
  ∀ s : State, exec .mul s = .next { s with
    a := BitVec.ofNat 8 (s.a.toNat * s.b.toNat / 256), b := BitVec.ofNat 8 (s.a.toNat * s.b.toNat),
    ccr := { s.ccr with c := decide (128 ≤ s.a.toNat * s.b.toNat % 256) }, pc := nextPc .mul s }

/-- R268 to R272: INX, DEX, INS, DES, ABX. -/
def Obligations.IndexAndStackArithmetic : Prop :=
  (Row .inx [0x08] (some 4) (some 3) ∧ Row .dex [0x09] (some 4) (some 3) ∧ Row .ins [0x31] (some 4) (some 3) ∧
    Row .des [0x34] (some 4) (some 3) ∧ Row .abx [0x3A] none (some 3)) ∧
  ∀ s : State,
    exec .inx s = .next { s.setIx (BitVec.ofNat 16 (s.ix.toNat + 1)) with
      ccr := { s.ccr with z := decide ((s.ix.toNat + 1) % 65536 = 0) }, pc := nextPc .inx s } ∧
    exec .dex s = .next { s.setIx (BitVec.ofInt 16 ((s.ix.toNat : Int) - 1)) with
      ccr := { s.ccr with z := decide (s.ix.toNat = 1) }, pc := nextPc .dex s } ∧
    exec .ins s = .next { s with sp := BitVec.ofNat 16 (s.sp.toNat + 1), pc := nextPc .ins s } ∧
    exec .des s = .next { s with sp := BitVec.ofInt 16 ((s.sp.toNat : Int) - 1), pc := nextPc .des s } ∧
    exec .abx s = .next { s.setIx (BitVec.ofNat 16 (s.ix.toNat + s.b.toNat)) with pc := nextPc .abx s }

/-! # Read-modify-write and shifts -/

/-- R301 to R306 and R328 to R333: NEG, COM, TST and CLR on A, on B and on memory. -/
def Obligations.NegateComplementTestClear : Prop :=
  (RowsRmw .nega .negb .neg 0x40 0x50 0x60 0x70 ∧ RowsRmw .coma .comb .com 0x43 0x53 0x63 0x73 ∧
    RowsRmw .tsta .tstb .tst 0x4D 0x5D 0x6D 0x7D ∧ RowsRmw .clra .clrb .clr 0x4F 0x5F 0x6F 0x7F) ∧
  RmwForms .nega .negb .neg (fun m _ => BitVec.ofInt 8 (-(m.toNat : Int)))
    (fun m f => { signZero8 (BitVec.ofInt 8 (-(m.toNat : Int))) f with
      v := decide (m.toNat = 128), c := decide (m.toNat ≠ 0) }) ∧
  RmwForms .coma .comb .com (fun m _ => BitVec.ofNat 8 (255 - m.toNat))
    (fun m f => { signZero8 (BitVec.ofNat 8 (255 - m.toNat)) f with v := false, c := true }) ∧
  RmwForms .clra .clrb .clr (fun _ _ => 0) (fun _ f => { f with n := false, z := true, v := false, c := false }) ∧
  ∀ s : State,
    exec .tsta s = .next { s with ccr := { movedFlags8 s.a s.ccr with c := false }, pc := nextPc .tsta s } ∧
    exec .tstb s = .next { s with ccr := { movedFlags8 s.b s.ccr with c := false }, pc := nextPc .tstb s } ∧
    ∀ m : IndExt, exec (.tst m) s = .next { s with
      ccr := { movedFlags8 (s.mem.read (ea (indExtMem m) s)) s.ccr with c := false }, pc := nextPc (.tst m) s }

/-- R307 to R315: LSR, ROR and ASR on A, on B and on memory. -/
def Obligations.ShiftsRight : Prop :=
  (RowsRmw .lsra .lsrb .lsr 0x44 0x54 0x64 0x74 ∧ RowsRmw .rora .rorb .ror 0x46 0x56 0x66 0x76 ∧
    RowsRmw .asra .asrb .asr 0x47 0x57 0x67 0x77) ∧
  RmwForms .lsra .lsrb .lsr (fun m _ => BitVec.ofNat 8 (m.toNat / 2))
    (fun m f => shifted8 (decide (m.toNat % 2 = 1)) (BitVec.ofNat 8 (m.toNat / 2)) f) ∧
  RmwForms .rora .rorb .ror (fun m f => BitVec.ofNat 8 (128 * f.c.toNat + m.toNat / 2))
    (fun m f => shifted8 (decide (m.toNat % 2 = 1)) (BitVec.ofNat 8 (128 * f.c.toNat + m.toNat / 2)) f) ∧
  RmwForms .asra .asrb .asr (fun m _ => BitVec.ofInt 8 (m.toInt / 2))
    (fun m f => shifted8 (decide (m.toNat % 2 = 1)) (BitVec.ofInt 8 (m.toInt / 2)) f)

/-- R316 to R321: ASL and ROL on A, on B and on memory. -/
def Obligations.ShiftsLeft : Prop :=
  (RowsRmw .asla .aslb .asl 0x48 0x58 0x68 0x78 ∧ RowsRmw .rola .rolb .rol 0x49 0x59 0x69 0x79) ∧
  RmwForms .asla .aslb .asl (fun m _ => BitVec.ofNat 8 (2 * m.toNat))
    (fun m f => shifted8 (decide (128 ≤ m.toNat)) (BitVec.ofNat 8 (2 * m.toNat)) f) ∧
  RmwForms .rola .rolb .rol (fun m f => BitVec.ofNat 8 (2 * m.toNat + f.c.toNat))
    (fun m f => shifted8 (decide (128 ≤ m.toNat)) (BitVec.ofNat 8 (2 * m.toNat + f.c.toNat)) f)

/-- R322 to R327: DEC and INC on A, on B and on memory; V is signed overflow, C is unchanged. -/
def Obligations.IncrementAndDecrement : Prop :=
  (RowsRmw .deca .decb .dec 0x4A 0x5A 0x6A 0x7A ∧ RowsRmw .inca .incb .inc 0x4C 0x5C 0x6C 0x7C) ∧
  RmwForms .deca .decb .dec (fun m _ => dif8 m 1 0)
    (fun m f => { signZero8 (dif8 m 1 0) f with v := decide (m.toInt = -128) }) ∧
  RmwForms .inca .incb .inc (fun m _ => sum8 m 1 0)
    (fun m f => { signZero8 (sum8 m 1 0) f with v := decide (m.toInt = 127) })

/-- R334, R335: ASLD and LSRD on D = A:B. -/
def Obligations.WordShifts : Prop :=
  Row .asld [0x05] none (some 3) ∧ Row .lsrd [0x04] none (some 3) ∧
  ∀ s : State, ∃ d l r : Word, d.toNat = 256 * s.a.toNat + s.b.toNat ∧
    l.toNat = 2 * d.toNat % 65536 ∧ r.toNat = d.toNat / 2 ∧
    exec .asld s = .next { s with
      a := hiByte l, b := loByte l, ccr := shifted16 (decide (32768 ≤ d.toNat)) l s.ccr, pc := nextPc .asld s } ∧
    exec .lsrd s = .next { s with
      a := hiByte r, b := loByte r, ccr := shifted16 (decide (d.toNat % 2 = 1)) r s.ccr, pc := nextPc .lsrd s }

/-! # Control flow -/

/-- R340 to R348: the branches on no flag, on C and on Z. -/
def Obligations.BranchesOnCarryAndZero : Prop :=
  BranchWhen .bra 0x20 (some 4) (fun _ => true) ∧ BranchWhen .brn 0x21 none (fun _ => false) ∧
  BranchWhen .bhi 0x22 (some 4) (fun f => (f.c || f.z) == false) ∧ BranchWhen .bls 0x23 (some 4) (fun f => f.c || f.z) ∧
  BranchWhen .bcc 0x24 (some 4) (fun f => f.c == false) ∧ BranchWhen .bcs 0x25 (some 4) (fun f => f.c) ∧
  BranchWhen .bne 0x26 (some 4) (fun f => f.z == false) ∧ BranchWhen .beq 0x27 (some 4) (fun f => f.z)

/-- R340, R349 to R356: the branches on V and N, and the signed comparisons. -/
def Obligations.BranchesOnSignAndOverflow : Prop :=
  BranchWhen .bvc 0x28 (some 4) (fun f => f.v == false) ∧ BranchWhen .bvs 0x29 (some 4) (fun f => f.v) ∧
  BranchWhen .bpl 0x2A (some 4) (fun f => f.n == false) ∧ BranchWhen .bmi 0x2B (some 4) (fun f => f.n) ∧
  BranchWhen .bge 0x2C (some 4) (fun f => f.n == f.v) ∧ BranchWhen .blt 0x2D (some 4) (fun f => f.n != f.v) ∧
  BranchWhen .bgt 0x2E (some 4) (fun f => f.z == false && f.n == f.v) ∧
  BranchWhen .ble 0x2F (some 4) (fun f => f.z || f.n != f.v)

/-- R357 to R360: BSR, JMP, JSR, RTS; and RTS after a call returns to the instruction after it. -/
def Obligations.JumpsAndSubroutines : Prop :=
  ((∀ rel : Byte, Row (.bsr rel) [0x8D, rel] (some 8) (some 6)) ∧
    RowsIndExt .jmp 0x6E 0x7E ⟨none, none, some 4, some 3⟩ ⟨none, none, some 3, some 3⟩ ∧
    RowsMem .jsr 0x9D 0xAD 0xBD ⟨none, none, some 8, some 9⟩ ⟨none, some 5, some 6, some 6⟩ ∧
    Row .rts [0x39] (some 5) (some 5)) ∧
  ∀ s : State,
    (∀ m : IndExt, exec (.jmp m) s = .next { s with pc := ea (indExtMem m) s }) ∧
    exec .rts s = .next { s with pc := s.mem.read16 (s.sp + 1), sp := s.sp + 2 } ∧
    (∀ rel : Byte, ∃ t, exec (.bsr rel) s = .next t ∧
      t = { s with mem := t.mem, sp := t.sp, pc := BitVec.ofInt 16 (s.pc.toNat + 2 + rel.toInt) } ∧
      PushedWord s t (nextPc (.bsr rel) s) ∧
      exec .rts t = .next { s with mem := t.mem, pc := nextPc (.bsr rel) s }) ∧
    (∀ m : MemOperand, ∃ t, exec (.jsr m) s = .next t ∧
      t = { s with mem := t.mem, sp := t.sp, pc := ea m s } ∧ PushedWord s t (nextPc (.jsr m) s) ∧
      exec .rts t = .next { s with mem := t.mem, pc := nextPc (.jsr m) s })

/-! # Condition-code and system instructions -/

/-- R380 to R386: CLC, SEC, CLV, SEV, CLI, SEI, NOP. -/
def Obligations.ConditionCodeInstructions : Prop :=
  (Row .clc [0x0C] (some 2) (some 2) ∧ Row .sec [0x0D] (some 2) (some 2) ∧ Row .clv [0x0A] (some 2) (some 2) ∧
    Row .sev [0x0B] (some 2) (some 2) ∧ Row .cli [0x0E] (some 2) (some 2) ∧ Row .sei [0x0F] (some 2) (some 2) ∧
    Row .nop [0x01] (some 2) (some 2)) ∧
  ∀ s : State,
    (∃ t, exec .clc s = .next t ∧ t = { s with ccr := t.ccr, pc := nextPc .clc s } ∧ ccrByte t.ccr = ccrByte s.ccr &&& 0xFE) ∧
    (∃ t, exec .sec s = .next t ∧ t = { s with ccr := t.ccr, pc := nextPc .sec s } ∧ ccrByte t.ccr = ccrByte s.ccr ||| 0x01) ∧
    (∃ t, exec .clv s = .next t ∧ t = { s with ccr := t.ccr, pc := nextPc .clv s } ∧ ccrByte t.ccr = ccrByte s.ccr &&& 0xFD) ∧
    (∃ t, exec .sev s = .next t ∧ t = { s with ccr := t.ccr, pc := nextPc .sev s } ∧ ccrByte t.ccr = ccrByte s.ccr ||| 0x02) ∧
    (∃ t, exec .cli s = .next t ∧ t = { s with ccr := t.ccr, pc := nextPc .cli s } ∧ ccrByte t.ccr = ccrByte s.ccr &&& 0xEF) ∧
    (∃ t, exec .sei s = .next t ∧ t = { s with ccr := t.ccr, pc := nextPc .sei s } ∧ ccrByte t.ccr = ccrByte s.ccr ||| 0x10) ∧
    exec .nop s = .next { s with pc := nextPc .nop s }

/-- R390: SWI, whatever I, `pending` and `wai` are; the vector is read after the frame is pushed. -/
def Obligations.SoftwareInterrupt : Prop :=
  Row .swi [0x3F] (some 12) (some 12) ∧
  ∀ s : State, ∃ t, exec .swi s = .next t ∧ FramePushed s t (BitVec.ofNat 16 (s.pc.toNat + 1)) ∧
    t = { s with mem := t.mem, sp := t.sp, ccr := { s.ccr with i := true }, pc := t.mem.read16 0xFFFA }

/-- R391: WAI pushes the context with the address after it, and parks. The next service pushes nothing, and RTI from its
handler resumes after the WAI with every register as it was (the spec's decision D27). -/
def Obligations.WaitForInterrupt : Prop :=
  Row .wai [0x3E] (some 9) (some 9) ∧
  ∀ s : State, ∃ t, exec .wai s = .next t ∧ FramePushed s t (BitVec.ofNat 16 (s.pc.toNat + 1)) ∧
    t = { s with mem := t.mem, sp := t.sp, wai := true, pc := BitVec.ofNat 16 (s.pc.toNat + 1) } ∧
    ∀ k, s.cfg.cycleMode = false → s.pending = .none → (k = .irq → s.ccr.i = false) →
      ∃ u, step (raiseRequest k t) = .next u ∧ u.mem = t.mem ∧ u.pc = t.mem.read16 (vectorAddress k) ∧
        exec .rti u = .next { s with mem := t.mem, pc := BitVec.ofNat 16 (s.pc.toNat + 1), wai := false, cycle := 0, curCycles := 0 }

/-- R392: RTI pulls the frame, bits 7:6 of the CCR forced to 1; and RTI after SWI restores every register. -/
def Obligations.ReturnFromInterrupt : Prop :=
  Row .rti [0x3B] (some 10) (some 10) ∧
  ∀ s : State,
    (∃ t, exec .rti s = .next t ∧ ccrByte t.ccr = s.mem.read (s.sp + 1) ||| 0xC0 ∧ t = { s.setIx t.ix with
      ccr := t.ccr, b := s.mem.read (s.sp + 2), a := s.mem.read (s.sp + 3), pc := t.pc, sp := s.sp + 7 } ∧
      t.ix.toNat = 256 * (s.mem.read (s.sp + 4)).toNat + (s.mem.read (s.sp + 5)).toNat ∧
      t.pc.toNat = 256 * (s.mem.read (s.sp + 6)).toNat + (s.mem.read (s.sp + 7)).toNat) ∧
    (∃ t, exec .swi s = .next t ∧ exec .rti t = .next { s with mem := t.mem, pc := BitVec.ofNat 16 (s.pc.toNat + 1) })

/-- R395: an INVALID opcode is skipped as one byte, or halts; which of the two, INC_ON_MISSING says (the spec's decision D8). -/
def Obligations.InvalidOpcodeSkipsOrHalts : Prop :=
  ∀ (s : State) (op : Byte),
    (s.cfg.incOnMissing = true → exec (.invalid op) s = .next { s with pc := BitVec.ofNat 16 (s.pc.toNat + 1) }) ∧
    (s.cfg.incOnMissing = false → exec (.invalid op) s = .fault (.halt s.pc op)) ∧
    (At s (.invalid op) ↔ s.mem.read s.pc = op ∧ op ∈ invalidOpcodes s.cfg.variant) ∧
    (At s (.invalid op) → cyclesOf (.invalid op) s = s.cfg.invalidCycles)

/-! # All instructions -/

/-- 10_state.md R38 to R43: no instruction outside a flag's list writes the flag. -/
def Obligations.FlagsHaveOnlyTheirWriters : Prop :=
  ∀ (i : Instr) (s t : State), exec i s = .next t →
    (writesH i = false → t.ccr.h = s.ccr.h) ∧ (writesI i = false → t.ccr.i = s.ccr.i) ∧
    (writesN i = false → t.ccr.n = s.ccr.n) ∧ (writesZ i = false → t.ccr.z = s.ccr.z) ∧
    (writesV i = false → t.ccr.v = s.ccr.v) ∧ (writesC s.cfg.variant i = false → t.ccr.c = s.ccr.c)

/-- What no instruction writes, and what only a few write: memory only by those of 20_memory.md R81, `wai` only by WAI, PC
past its own bytes but for control transfers. Only `invalid` can stop. -/
def Obligations.InstructionsKeepTheRest : Prop :=
  ∀ (i : Instr) (s : State),
    (∀ t, exec i s = .next t →
      t.backup = s.backup ∧ t.cfg = s.cfg ∧ t.pending = s.pending ∧ t.cycle = s.cycle ∧ t.curCycles = s.curCycles ∧
      t.curIndReg = s.curIndReg ∧ (i ≠ .wai → t.wai = s.wai) ∧ (i ≠ .daa → t.draws = s.draws) ∧
      (writesMemory i = false → t.mem = s.mem) ∧ (transfersControl i = false → t.pc = nextPc i s)) ∧
    (∀ q, exec i s ≠ .refused q) ∧ (∀ e, exec i s = .fault e → ∃ op, i = .invalid op ∧ e = .halt s.pc op)

/-- R152: but for CPX, a handler is the same function on both variants. -/
def Obligations.HandlersAreTheSameOnBothVariants : Prop :=
  ∀ (v : Variant) (i : Instr) (s : State), (∀ o, i ≠ .cpx o) →
    exec i (switchVersion v s) = andThen (exec i s) (switchVersion v)

/-- R34: with X selected, every instruction and every step keeps it selected, writes X2 never, and reads X2 never. -/
def Obligations.SecondIndexRegisterIsUnused : Prop :=
  ∀ (s : State) (v : Word), s.curIndReg = .x →
    s.ix = s.x ∧ s.setIx v = { s with x := v } ∧
    (∀ i, exec i { s with x2 := v } = andThen (exec i s) (fun t => { t with x2 := v })) ∧
    step { s with x2 := v } = andThen (step s) (fun t => { t with x2 := v }) ∧
    (∀ t, step s = .next t → t.curIndReg = .x ∧ t.x2 = s.x2)

/-! # Ticks -/

/-- With nothing pending, not parked and at a dispatch point, a step is the meaning of the instruction at PC, and the counter. -/
def Obligations.StepRunsTheDecodedInstruction : Prop :=
  ∀ (s : State) (i : Instr), s.pending = .none → s.wai = false → At s i →
    (s.cfg.cycleMode = false → step s = andThen (exec i s) (fun t => { t with cycle := 0, curCycles := 0 })) ∧
    (s.cfg.cycleMode = true → AtDispatchPoint s →
      step s = andThen (exec i s) (fun t => { t with cycle := 0, curCycles := cyclesOf i s }))

/-- R433 and R425: an IPS tick services a request that is not masked, and dispatches nothing. That this tick clears `pending`
and zeroes both counters is R425 (the spec's decisions D2 and D21). -/
def Obligations.IpsTickServicesARequest : Prop :=
  ∀ (s : State) (k : Request), s.cfg.cycleMode = false → s.pending = .request k → (k = .irq → s.ccr.i = false) →
    ∃ t, step s = .next t ∧ Serviced k s t ∧ t.pending = .none ∧ t.cycle = 0 ∧ t.curCycles = 0

/-- R424: an IRQ found with I = 1 is dropped, and the tick is that of a state with nothing pending; a parked core stays parked. -/
def Obligations.MaskedIrqIsDropped : Prop :=
  ∀ s : State, s.pending = .request .irq → s.ccr.i = true → (s.cfg.cycleMode = true → AtDispatchPoint s) →
    step s = step { s with pending := .none } ∧ (∀ t, step s = .next t → t.pending = .none) ∧
    (s.wai = true → step s = .next { s with pending := .none, cycle := 0, curCycles := 0 })

/-- R427: a parked core executes nothing, and only a service ends it, which pushes nothing. -/
def Obligations.ParkedUntilAService : Prop :=
  ∀ s : State, s.wai = true →
    (s.pending = .none → (s.cfg.cycleMode = true → AtDispatchPoint s) →
      step s = .next { s with cycle := 0, curCycles := 0 }) ∧
    (∀ t, step s = .next t →
      (t.wai = true ∧ t = { s with pending := t.pending, cycle := t.cycle, curCycles := t.curCycles }) ∨
      (t.wai = false ∧ ∃ k, Serviced k s t ∧ t.mem = s.mem ∧
        (s.pending = .request k ∧ s.cfg.cycleMode = false ∧ (k = .irq → s.ccr.i = false) ∨ s.pending = .service k ∧ s.cfg.cycleMode = true)))

/-- R428, R429, R430: between dispatch points only `cycle` moves; a request runs one instruction and elevates the count; its
service occupies one tick. It holds for every value of INT_ENTRY_CYCLES, which is at least 1. -/
def Obligations.CycleAccurateInterruptEntry : Prop :=
  1 ≤ Config.intEntryCycles ∧
  ∀ s : State, s.cfg.cycleMode = true →
    (¬AtDispatchPoint s → step s = .next { s with cycle := s.cycle + 1 }) ∧
    (AtDispatchPoint s → ∀ k, s.pending = .request k → (k = .irq → s.ccr.i = false) →
      (s.wai = true →
        step s = .next { s with pending := .service k, cycle := 0, curCycles := Config.intEntryCycles }) ∧
      (s.wai = false → ∀ i, At s i → step s = andThen (exec i s) (fun t =>
        { t with pending := .service k, cycle := 0, curCycles := cyclesOf i s + Config.intEntryCycles }))) ∧
    (AtDispatchPoint s → ∀ k, s.pending = .service k →
      ∃ t, step s = .next t ∧ Serviced k s t ∧ t.pending = .none ∧ t.cycle = 0 ∧ t.curCycles = 1)

/-- R428: an instruction of n cycles occupies n ticks: after its dispatch, n - 1 ticks change only `cycle`. -/
def Obligations.AnInstructionOccupiesItsCycles : Prop :=
  ∀ (s : State) (n : Nat), s.cfg.cycleMode = true → s.cycle = 0 → s.curCycles = n →
    (∀ k < n, ticks k s = .next { s with cycle := k }) ∧
    (∀ k < n, AtDispatchPoint { s with cycle := k } ↔ k + 1 = n)

/-- R57: `step()` is an IPS tick in either mode, so it is fatal on a `*_SERVICE` value. -/
def Obligations.HostStepIsAnIpsTick : Prop :=
  ∀ s : State, hostStep s = andThen (step (setMode false s)) (setMode s.cfg.cycleMode) ∧
    ((∃ k, s.pending = .service k) ↔ hostStep s = .fault .serviceStateInIPS)

/-- R436, R151, R438: a step is never refused, and it stops exactly in these two ways. -/
def Obligations.AStepStopsOnlyInTwoWays : Prop :=
  ∀ s : State,
    (∀ q, step s ≠ .refused q) ∧
    (step s = .fault .serviceStateInIPS ↔ s.cfg.cycleMode = false ∧ ∃ k, s.pending = .service k) ∧
    (∀ pc op, step s = .fault (.halt pc op) ↔
      Dispatches s ∧ At s (.invalid op) ∧ s.cfg.incOnMissing = false ∧ pc = s.pc)

/-! # Invariants -/

/-- The state after reset meets the invariant. -/
def Obligations.ResetMeetsTheInvariant : Prop := Inv State.reset

/-- Every step keeps the invariant: canonical memory, `*_SERVICE` only in CPS (R45), the bounds of the counter (R47), X
selected (R34). -/
def Obligations.EveryStepKeepsTheInvariant : Prop :=
  ∀ s t : State, Inv s → step s = .next t → Inv t

/-- Every host action that keeps the discipline of R436 keeps the invariant. -/
def Obligations.HostActionsKeepTheInvariant : Prop :=
  ∀ (s : State) (act : HostAction), Inv s → HostDiscipline act s → Inv (applyAction act s)

/-- R436: under a host that keeps its discipline, no run reaches the fatal fault. -/
def Obligations.DisciplinedHostsNeverMeetTheFatalFault : Prop :=
  ∀ s : State, Reachable s → Inv s ∧ step s ≠ .fault .serviceStateInIPS

/-! # The host's operations -/

/-- R59, R470, R472, R476: an image fills both memories byte for byte; reset() restores memory from `backup` and sets every
register; and the model's start is `loadImage(zeros)` then `reset()`. -/
def Obligations.ImageThenReset : Prop :=
  (∀ (img : Vector Byte 65536) (s : State),
    (∀ a : Word, (loadImage img s).mem.read a = img[a.toNat]'a.isLt) ∧
    loadImage img s = { s with mem := (loadImage img s).mem, backup := (loadImage img s).mem } ∧
    (loadImage img s).mem.wf = true) ∧
  (∀ s : State, ∃ t, hostReset s = t ∧
    t = { s with mem := s.backup, sp := 0x00FF, a := s.cfg.resetA, b := s.cfg.resetB, x := s.cfg.resetX, x2 := s.cfg.resetX2,
                 curIndReg := .x, ccr := t.ccr, pending := .none, wai := false, cycle := 0, curCycles := 0, pc := t.pc } ∧
    ccrByte t.ccr = s.cfg.resetCcr ||| 0xC0 ∧
    (s.cfg.resetPcFromVector = true →
      t.pc.toNat = 256 * (s.backup.read 0xFFFE).toNat + (s.backup.read 0xFFFF).toNat) ∧
    (s.cfg.resetPcFromVector = false → t.pc = s.cfg.resetPc)) ∧
  (∀ s : State, s.cfg = Config.default →
    hostReset (loadImage (Vector.replicate 65536 0) s) = { State.reset with draws := s.draws })

/-- R422, R423, R51 to R53, R58: a request is latched only when nothing is pending; settings and pokes change nothing else,
and never `backup`. -/
def Obligations.HostRequestsSettingsAndPokes : Prop :=
  ∀ s : State,
    (∀ k, s.pending = .none → raiseRequest k s = { s with pending := .request k }) ∧
    (∀ k, s.pending ≠ .none → raiseRequest k s = s) ∧
    (∀ j k, s.pending = .none → (raiseRequest k (raiseRequest j s)).pending = .request j) ∧
    (∀ b, setMode b s = { s with cfg := { s.cfg with cycleMode := b } }) ∧
    (∀ b, setIncOnMissing b s = { s with cfg := { s.cfg with incOnMissing := b } }) ∧
    (∀ v, switchVersion v s = { s with cfg := { s.cfg with variant := v } }) ∧
    (∀ a x, StoredByte s (setMemory a x s) a x ∧ setMemory a x s = { s with mem := (setMemory a x s).mem }) ∧
    (∀ x, StoredByte s (setKey x s) Config.keyAddr x ∧ setKey x s = { s with mem := (setKey x s).mem }) ∧
    (∀ x, StoredByte s (setMouse x s) Config.mouseAddr x ∧ setMouse x s = { s with mem := (setMouse x s).mem })
end

