-- ==== Sys2Proof/Laws/Decode.lean ====
section
/-! SUPPORT. What the decoder does with each kind of cell, that three bytes always decode, and the bound of `INVALID_CYCLES`. -/

namespace Sys2Proof

/-- Every opcode of the INVALID lists has no cycle count on its variant (30_encoding.md R115, R116). -/
theorem opcodeCycles_of_invalid : ∀ (v : Variant), ∀ op ∈ invalidOpcodes v, opcodeCycles v op = none := by
  intro v
  cases v <;> decide

/-- An INVALID opcode decodes to its `invalid` instruction, one byte long. -/
theorem decode_invalid (v : Variant) (op : Byte) (rest : List Byte) (h : op ∈ invalidOpcodes v) :
    decode v (op :: rest) = .ok (.invalid op, rest) := by
  simp [decode, opcodeCycles_of_invalid v op h]

/-- An opcode of the 16-bit formats takes the next two bytes, high byte first. -/
theorem decode_word {v : Variant} {op : Byte} {f : Word → Instr} {c : Nat} {w : Word} {rest : List Byte}
    (hc : opcodeCycles v op = some c) (hf : (opcodeRow op).format = .word f) :
    decode v (op :: hiByte w :: loByte w :: rest) = .ok (f w, rest) := by
  simp [decode, hc, hf, Format.read]

/-- Three bytes always decode: no instruction is longer (20_memory.md R77). -/
theorem decode_three_bytes (v : Variant) (a b c : Byte) : ∃ i rest, decode v [a, b, c] = .ok (i, rest) := by
  simp only [decode]
  cases opcodeCycles v a with
  | none => exact ⟨_, _, rfl⟩
  | some _ => cases (opcodeRow a).format <;> exact ⟨_, _, rfl⟩

/-- A skipped INVALID opcode costs at least one cycle (00_scope.md R8). -/
theorem one_le_invalidCycles (c : Config) : 1 ≤ c.invalidCycles := Nat.le_add_left 1 c.invalidExtra

end Sys2Proof
end

