-- ==== Sys2Proof/Laws/Memory.lean ====
section
/-! SUPPORT. Memory: read over write for every list, and the canonical form. -/

namespace Sys2Proof.Machine

/-! ## One entry -/

theorem lookupCell_eraseCell_same (m : Memory) (k : Nat) : lookupCell (eraseCell m k) k = unlistedByte := by
  induction m with
  | nil => rfl
  | cons c rest ih =>
    obtain ⟨j, v⟩ := c
    by_cases h : j = k <;> simp [eraseCell, lookupCell, h, ih]

theorem lookupCell_eraseCell_ne (m : Memory) {k j : Nat} (h : j ≠ k) :
    lookupCell (eraseCell m k) j = lookupCell m j := by
  induction m with
  | nil => rfl
  | cons c rest ih =>
    obtain ⟨i, v⟩ := c
    by_cases hk : i = k
    · have : i ≠ j := fun e => h (e ▸ hk)
      simp [eraseCell, lookupCell, hk, ih, Ne.symm h]
    · simp [eraseCell, lookupCell, hk, ih]

theorem lookupCell_insertCell_same (m : Memory) (k : Nat) (v : Byte) (h : ∀ c ∈ m, c.1 ≠ k) :
    lookupCell (insertCell m k v) k = v := by
  induction m with
  | nil => simp [insertCell, lookupCell]
  | cons c rest ih =>
    obtain ⟨i, w⟩ := c
    have hi : i ≠ k := h (i, w) (by simp)
    by_cases hlt : k < i
    · simp [insertCell, lookupCell, hlt]
    · simp [insertCell, lookupCell, hlt, hi, ih (fun c hc => h c (by simp [hc]))]

theorem lookupCell_insertCell_ne (m : Memory) {k j : Nat} (v : Byte) (h : j ≠ k) :
    lookupCell (insertCell m k v) j = lookupCell m j := by
  induction m with
  | nil => simp [insertCell, lookupCell, Ne.symm h]
  | cons c rest ih =>
    obtain ⟨i, w⟩ := c
    by_cases hlt : k < i
    · simp [insertCell, lookupCell, hlt, Ne.symm h]
    · simp [insertCell, lookupCell, hlt, ih]

theorem mem_eraseCell_key (m : Memory) (k : Nat) : ∀ c ∈ eraseCell m k, c.1 ≠ k := by
  induction m with
  | nil => simp [eraseCell]
  | cons c rest ih =>
    obtain ⟨i, w⟩ := c
    by_cases h : i = k
    · simpa [eraseCell, h] using ih
    · intro c hc
      rcases (by simpa [eraseCell, h] using hc : c = (i, w) ∨ c ∈ eraseCell rest k) with rfl | hc
      · exact h
      · exact ih c hc

/-! ## Read over write (20_memory.md R74, R75) -/

@[simp] theorem Memory.read_write_same (m : Memory) (a : Word) (v : Byte) : (m.write a v).read a = v := by
  unfold Memory.write Memory.read
  split
  · next h => rw [h]; exact lookupCell_eraseCell_same m a.toNat
  · exact lookupCell_insertCell_same _ _ _ (mem_eraseCell_key m a.toNat)

theorem Memory.read_write_ne (m : Memory) {a b : Word} (v : Byte) (h : b ≠ a) :
    (m.write a v).read b = m.read b := by
  have hn : b.toNat ≠ a.toNat := fun e => h (BitVec.eq_of_toNat_eq e)
  unfold Memory.write Memory.read
  split
  · exact lookupCell_eraseCell_ne m hn
  · rw [lookupCell_insertCell_ne _ _ hn, lookupCell_eraseCell_ne m hn]

theorem Memory.read_write (m : Memory) (a b : Word) (v : Byte) :
    (m.write a v).read b = if b = a then v else m.read b := by
  split
  · next h => subst h; simp
  · next h => exact Memory.read_write_ne m v h

theorem Memory.read_write16 (m : Memory) (a b : Word) (v : Word) :
    (m.write16 a v).read b = if b = a then hiByte v else if b = a + 1 then loByte v else m.read b := by
  unfold Memory.write16
  rw [Memory.read_write, Memory.read_write]
  by_cases h0 : b = a
  · subst h0; simp
  · by_cases h1 : b = a + 1 <;> simp [h0, h1]

@[simp] theorem Memory.read16_write16_same (m : Memory) (a v : Word) : (m.write16 a v).read16 a = v := by
  unfold Memory.read16
  rw [Memory.read_write16, Memory.read_write16]
  simp

/-! ## The canonical form -/

theorem risingFrom_mono {lo lo' : Nat} (m : Memory) (h : lo' ≤ lo) (hm : risingFrom lo m = true) :
    risingFrom lo' m = true := by
  cases m with
  | nil => rfl
  | cons c rest =>
    obtain ⟨k, v⟩ := c
    simp only [risingFrom, Bool.and_eq_true, decide_eq_true_eq] at hm ⊢
    exact ⟨⟨by omega, hm.1.2⟩, hm.2⟩

theorem risingFrom_eraseCell (m : Memory) (k lo : Nat) (hm : risingFrom lo m = true) :
    risingFrom lo (eraseCell m k) = true := by
  induction m generalizing lo with
  | nil => rfl
  | cons c rest ih =>
    obtain ⟨i, w⟩ := c
    simp only [risingFrom, Bool.and_eq_true, decide_eq_true_eq] at hm
    by_cases h : i = k
    · simp only [eraseCell, h, if_true]
      exact risingFrom_mono _ (by omega) (ih (i + 1) hm.2)
    · simp only [eraseCell, h, if_false, risingFrom, Bool.and_eq_true, decide_eq_true_eq]
      exact ⟨hm.1, ih (i + 1) hm.2⟩

theorem risingFrom_insertCell (m : Memory) (k lo : Nat) (v : Byte) (hm : risingFrom lo m = true)
    (hk : k < 65536) (hlo : lo ≤ k) (hv : v ≠ unlistedByte) (hne : ∀ c ∈ m, c.1 ≠ k) :
    risingFrom lo (insertCell m k v) = true := by
  induction m generalizing lo with
  | nil => simp [insertCell, risingFrom, hlo, hk, hv]
  | cons c rest ih =>
    obtain ⟨i, w⟩ := c
    simp only [risingFrom, Bool.and_eq_true, decide_eq_true_eq] at hm
    have hi : i ≠ k := hne (i, w) (by simp)
    by_cases hlt : k < i
    · simp only [insertCell, hlt, if_true, risingFrom, Bool.and_eq_true, decide_eq_true_eq]
      exact ⟨⟨hlo, hk, hv⟩, ⟨by omega, hm.1.2⟩, hm.2⟩
    · simp only [insertCell, hlt, if_false, risingFrom, Bool.and_eq_true, decide_eq_true_eq]
      exact ⟨hm.1, ih (i + 1) hm.2 (by omega) (fun c hc => hne c (by simp [hc]))⟩

/-- A byte write keeps the canonical form. -/
theorem Memory.wf_write (m : Memory) (a : Word) (v : Byte) (h : m.wf = true) : (m.write a v).wf = true := by
  unfold Memory.write Memory.wf at *
  split
  · exact risingFrom_eraseCell m _ _ h
  · next hv =>
    exact risingFrom_insertCell _ _ _ _ (risingFrom_eraseCell m _ _ h) a.isLt (Nat.zero_le _) hv
      (mem_eraseCell_key m _)

/-- A 16-bit write keeps the canonical form. -/
theorem Memory.wf_write16 (m : Memory) (a v : Word) (h : m.wf = true) : (m.write16 a v).wf = true :=
  Memory.wf_write _ _ _ (Memory.wf_write _ _ _ h)

theorem risingFrom_cellsFrom (l : List Byte) (lo : Nat) (h : lo + l.length ≤ 65536) :
    risingFrom lo (cellsFrom lo l) = true := by
  induction l generalizing lo with
  | nil => rfl
  | cons v rest ih =>
    simp only [List.length_cons] at h
    have := ih (lo + 1) (by omega)
    by_cases hv : v = unlistedByte
    · simp only [cellsFrom, hv, if_true]
      exact risingFrom_mono _ (by omega) this
    · simp only [cellsFrom, hv, if_false, risingFrom, Bool.and_eq_true, decide_eq_true_eq]
      exact ⟨⟨Nat.le_refl _, by omega, hv⟩, this⟩

/-- An image's memory is in the canonical form. -/
theorem Memory.wf_ofImage (img : Vector Byte 65536) : (Memory.ofImage img).wf = true :=
  risingFrom_cellsFrom img.toList 0 (by simp)

theorem lookupCell_below (m : Memory) (lo k : Nat) (hm : risingFrom lo m = true) (hk : k < lo) :
    lookupCell m k = unlistedByte := by
  induction m generalizing lo with
  | nil => rfl
  | cons c rest ih =>
    obtain ⟨i, w⟩ := c
    simp only [risingFrom, Bool.and_eq_true, decide_eq_true_eq] at hm
    have : i ≠ k := by omega
    simp [lookupCell, this, ih (i + 1) hm.2 (by omega)]

theorem Memory.wf_nil : Memory.wf [] = true := rfl

end Sys2Proof.Machine
end

