-- ==== Sys2Proof/Laws/State.lean ====
section
/-! SUPPORT. One lemma per field and update of State, and the register views after an update. -/

namespace Sys2Proof.Machine

/-! ### setPc -/

@[simp] theorem State.setPc_pc (s : State) (v : Word) : (s.setPc v).pc = v := rfl
@[simp] theorem State.setPc_sp (s : State) (v : Word) : (s.setPc v).sp = s.sp := rfl
@[simp] theorem State.setPc_a (s : State) (v : Word) : (s.setPc v).a = s.a := rfl
@[simp] theorem State.setPc_b (s : State) (v : Word) : (s.setPc v).b = s.b := rfl
@[simp] theorem State.setPc_x (s : State) (v : Word) : (s.setPc v).x = s.x := rfl
@[simp] theorem State.setPc_x2 (s : State) (v : Word) : (s.setPc v).x2 = s.x2 := rfl
@[simp] theorem State.setPc_curIndReg (s : State) (v : Word) : (s.setPc v).curIndReg = s.curIndReg := rfl
@[simp] theorem State.setPc_ccr (s : State) (v : Word) : (s.setPc v).ccr = s.ccr := rfl
@[simp] theorem State.setPc_pending (s : State) (v : Word) : (s.setPc v).pending = s.pending := rfl
@[simp] theorem State.setPc_wai (s : State) (v : Word) : (s.setPc v).wai = s.wai := rfl
@[simp] theorem State.setPc_cycle (s : State) (v : Word) : (s.setPc v).cycle = s.cycle := rfl
@[simp] theorem State.setPc_curCycles (s : State) (v : Word) : (s.setPc v).curCycles = s.curCycles := rfl
@[simp] theorem State.setPc_mem (s : State) (v : Word) : (s.setPc v).mem = s.mem := rfl
@[simp] theorem State.setPc_backup (s : State) (v : Word) : (s.setPc v).backup = s.backup := rfl
@[simp] theorem State.setPc_cfg (s : State) (v : Word) : (s.setPc v).cfg = s.cfg := rfl
@[simp] theorem State.setPc_draws (s : State) (v : Word) : (s.setPc v).draws = s.draws := rfl
@[simp] theorem State.setPc_acc (s : State) (v : Word) (r : Acc) : (s.setPc v).acc r = s.acc r := by cases r <;> rfl
@[simp] theorem State.setPc_ix (s : State) (v : Word) : (s.setPc v).ix = s.ix := rfl
@[simp] theorem State.setPc_d (s : State) (v : Word) : (s.setPc v).d = s.d := rfl

/-! ### setSp -/

@[simp] theorem State.setSp_pc (s : State) (v : Word) : (s.setSp v).pc = s.pc := rfl
@[simp] theorem State.setSp_sp (s : State) (v : Word) : (s.setSp v).sp = v := rfl
@[simp] theorem State.setSp_a (s : State) (v : Word) : (s.setSp v).a = s.a := rfl
@[simp] theorem State.setSp_b (s : State) (v : Word) : (s.setSp v).b = s.b := rfl
@[simp] theorem State.setSp_x (s : State) (v : Word) : (s.setSp v).x = s.x := rfl
@[simp] theorem State.setSp_x2 (s : State) (v : Word) : (s.setSp v).x2 = s.x2 := rfl
@[simp] theorem State.setSp_curIndReg (s : State) (v : Word) : (s.setSp v).curIndReg = s.curIndReg := rfl
@[simp] theorem State.setSp_ccr (s : State) (v : Word) : (s.setSp v).ccr = s.ccr := rfl
@[simp] theorem State.setSp_pending (s : State) (v : Word) : (s.setSp v).pending = s.pending := rfl
@[simp] theorem State.setSp_wai (s : State) (v : Word) : (s.setSp v).wai = s.wai := rfl
@[simp] theorem State.setSp_cycle (s : State) (v : Word) : (s.setSp v).cycle = s.cycle := rfl
@[simp] theorem State.setSp_curCycles (s : State) (v : Word) : (s.setSp v).curCycles = s.curCycles := rfl
@[simp] theorem State.setSp_mem (s : State) (v : Word) : (s.setSp v).mem = s.mem := rfl
@[simp] theorem State.setSp_backup (s : State) (v : Word) : (s.setSp v).backup = s.backup := rfl
@[simp] theorem State.setSp_cfg (s : State) (v : Word) : (s.setSp v).cfg = s.cfg := rfl
@[simp] theorem State.setSp_draws (s : State) (v : Word) : (s.setSp v).draws = s.draws := rfl
@[simp] theorem State.setSp_acc (s : State) (v : Word) (r : Acc) : (s.setSp v).acc r = s.acc r := by cases r <;> rfl
@[simp] theorem State.setSp_ix (s : State) (v : Word) : (s.setSp v).ix = s.ix := rfl
@[simp] theorem State.setSp_d (s : State) (v : Word) : (s.setSp v).d = s.d := rfl

/-! ### setA -/

@[simp] theorem State.setA_pc (s : State) (v : Byte) : (s.setA v).pc = s.pc := rfl
@[simp] theorem State.setA_sp (s : State) (v : Byte) : (s.setA v).sp = s.sp := rfl
@[simp] theorem State.setA_a (s : State) (v : Byte) : (s.setA v).a = v := rfl
@[simp] theorem State.setA_b (s : State) (v : Byte) : (s.setA v).b = s.b := rfl
@[simp] theorem State.setA_x (s : State) (v : Byte) : (s.setA v).x = s.x := rfl
@[simp] theorem State.setA_x2 (s : State) (v : Byte) : (s.setA v).x2 = s.x2 := rfl
@[simp] theorem State.setA_curIndReg (s : State) (v : Byte) : (s.setA v).curIndReg = s.curIndReg := rfl
@[simp] theorem State.setA_ccr (s : State) (v : Byte) : (s.setA v).ccr = s.ccr := rfl
@[simp] theorem State.setA_pending (s : State) (v : Byte) : (s.setA v).pending = s.pending := rfl
@[simp] theorem State.setA_wai (s : State) (v : Byte) : (s.setA v).wai = s.wai := rfl
@[simp] theorem State.setA_cycle (s : State) (v : Byte) : (s.setA v).cycle = s.cycle := rfl
@[simp] theorem State.setA_curCycles (s : State) (v : Byte) : (s.setA v).curCycles = s.curCycles := rfl
@[simp] theorem State.setA_mem (s : State) (v : Byte) : (s.setA v).mem = s.mem := rfl
@[simp] theorem State.setA_backup (s : State) (v : Byte) : (s.setA v).backup = s.backup := rfl
@[simp] theorem State.setA_cfg (s : State) (v : Byte) : (s.setA v).cfg = s.cfg := rfl
@[simp] theorem State.setA_draws (s : State) (v : Byte) : (s.setA v).draws = s.draws := rfl
@[simp] theorem State.setA_ix (s : State) (v : Byte) : (s.setA v).ix = s.ix := rfl

/-! ### setB -/

@[simp] theorem State.setB_pc (s : State) (v : Byte) : (s.setB v).pc = s.pc := rfl
@[simp] theorem State.setB_sp (s : State) (v : Byte) : (s.setB v).sp = s.sp := rfl
@[simp] theorem State.setB_a (s : State) (v : Byte) : (s.setB v).a = s.a := rfl
@[simp] theorem State.setB_b (s : State) (v : Byte) : (s.setB v).b = v := rfl
@[simp] theorem State.setB_x (s : State) (v : Byte) : (s.setB v).x = s.x := rfl
@[simp] theorem State.setB_x2 (s : State) (v : Byte) : (s.setB v).x2 = s.x2 := rfl
@[simp] theorem State.setB_curIndReg (s : State) (v : Byte) : (s.setB v).curIndReg = s.curIndReg := rfl
@[simp] theorem State.setB_ccr (s : State) (v : Byte) : (s.setB v).ccr = s.ccr := rfl
@[simp] theorem State.setB_pending (s : State) (v : Byte) : (s.setB v).pending = s.pending := rfl
@[simp] theorem State.setB_wai (s : State) (v : Byte) : (s.setB v).wai = s.wai := rfl
@[simp] theorem State.setB_cycle (s : State) (v : Byte) : (s.setB v).cycle = s.cycle := rfl
@[simp] theorem State.setB_curCycles (s : State) (v : Byte) : (s.setB v).curCycles = s.curCycles := rfl
@[simp] theorem State.setB_mem (s : State) (v : Byte) : (s.setB v).mem = s.mem := rfl
@[simp] theorem State.setB_backup (s : State) (v : Byte) : (s.setB v).backup = s.backup := rfl
@[simp] theorem State.setB_cfg (s : State) (v : Byte) : (s.setB v).cfg = s.cfg := rfl
@[simp] theorem State.setB_draws (s : State) (v : Byte) : (s.setB v).draws = s.draws := rfl
@[simp] theorem State.setB_ix (s : State) (v : Byte) : (s.setB v).ix = s.ix := rfl

/-! ### setCcr -/

@[simp] theorem State.setCcr_pc (s : State) (v : Ccr) : (s.setCcr v).pc = s.pc := rfl
@[simp] theorem State.setCcr_sp (s : State) (v : Ccr) : (s.setCcr v).sp = s.sp := rfl
@[simp] theorem State.setCcr_a (s : State) (v : Ccr) : (s.setCcr v).a = s.a := rfl
@[simp] theorem State.setCcr_b (s : State) (v : Ccr) : (s.setCcr v).b = s.b := rfl
@[simp] theorem State.setCcr_x (s : State) (v : Ccr) : (s.setCcr v).x = s.x := rfl
@[simp] theorem State.setCcr_x2 (s : State) (v : Ccr) : (s.setCcr v).x2 = s.x2 := rfl
@[simp] theorem State.setCcr_curIndReg (s : State) (v : Ccr) : (s.setCcr v).curIndReg = s.curIndReg := rfl
@[simp] theorem State.setCcr_ccr (s : State) (v : Ccr) : (s.setCcr v).ccr = v := rfl
@[simp] theorem State.setCcr_pending (s : State) (v : Ccr) : (s.setCcr v).pending = s.pending := rfl
@[simp] theorem State.setCcr_wai (s : State) (v : Ccr) : (s.setCcr v).wai = s.wai := rfl
@[simp] theorem State.setCcr_cycle (s : State) (v : Ccr) : (s.setCcr v).cycle = s.cycle := rfl
@[simp] theorem State.setCcr_curCycles (s : State) (v : Ccr) : (s.setCcr v).curCycles = s.curCycles := rfl
@[simp] theorem State.setCcr_mem (s : State) (v : Ccr) : (s.setCcr v).mem = s.mem := rfl
@[simp] theorem State.setCcr_backup (s : State) (v : Ccr) : (s.setCcr v).backup = s.backup := rfl
@[simp] theorem State.setCcr_cfg (s : State) (v : Ccr) : (s.setCcr v).cfg = s.cfg := rfl
@[simp] theorem State.setCcr_draws (s : State) (v : Ccr) : (s.setCcr v).draws = s.draws := rfl
@[simp] theorem State.setCcr_acc (s : State) (v : Ccr) (r : Acc) : (s.setCcr v).acc r = s.acc r := by cases r <;> rfl
@[simp] theorem State.setCcr_ix (s : State) (v : Ccr) : (s.setCcr v).ix = s.ix := rfl
@[simp] theorem State.setCcr_d (s : State) (v : Ccr) : (s.setCcr v).d = s.d := rfl

/-! ### setMem -/

@[simp] theorem State.setMem_pc (s : State) (v : Memory) : (s.setMem v).pc = s.pc := rfl
@[simp] theorem State.setMem_sp (s : State) (v : Memory) : (s.setMem v).sp = s.sp := rfl
@[simp] theorem State.setMem_a (s : State) (v : Memory) : (s.setMem v).a = s.a := rfl
@[simp] theorem State.setMem_b (s : State) (v : Memory) : (s.setMem v).b = s.b := rfl
@[simp] theorem State.setMem_x (s : State) (v : Memory) : (s.setMem v).x = s.x := rfl
@[simp] theorem State.setMem_x2 (s : State) (v : Memory) : (s.setMem v).x2 = s.x2 := rfl
@[simp] theorem State.setMem_curIndReg (s : State) (v : Memory) : (s.setMem v).curIndReg = s.curIndReg := rfl
@[simp] theorem State.setMem_ccr (s : State) (v : Memory) : (s.setMem v).ccr = s.ccr := rfl
@[simp] theorem State.setMem_pending (s : State) (v : Memory) : (s.setMem v).pending = s.pending := rfl
@[simp] theorem State.setMem_wai (s : State) (v : Memory) : (s.setMem v).wai = s.wai := rfl
@[simp] theorem State.setMem_cycle (s : State) (v : Memory) : (s.setMem v).cycle = s.cycle := rfl
@[simp] theorem State.setMem_curCycles (s : State) (v : Memory) : (s.setMem v).curCycles = s.curCycles := rfl
@[simp] theorem State.setMem_mem (s : State) (v : Memory) : (s.setMem v).mem = v := rfl
@[simp] theorem State.setMem_backup (s : State) (v : Memory) : (s.setMem v).backup = s.backup := rfl
@[simp] theorem State.setMem_cfg (s : State) (v : Memory) : (s.setMem v).cfg = s.cfg := rfl
@[simp] theorem State.setMem_draws (s : State) (v : Memory) : (s.setMem v).draws = s.draws := rfl
@[simp] theorem State.setMem_acc (s : State) (v : Memory) (r : Acc) : (s.setMem v).acc r = s.acc r := by cases r <;> rfl
@[simp] theorem State.setMem_ix (s : State) (v : Memory) : (s.setMem v).ix = s.ix := rfl
@[simp] theorem State.setMem_d (s : State) (v : Memory) : (s.setMem v).d = s.d := rfl

/-! ### setWai -/

@[simp] theorem State.setWai_pc (s : State) (v : Bool) : (s.setWai v).pc = s.pc := rfl
@[simp] theorem State.setWai_sp (s : State) (v : Bool) : (s.setWai v).sp = s.sp := rfl
@[simp] theorem State.setWai_a (s : State) (v : Bool) : (s.setWai v).a = s.a := rfl
@[simp] theorem State.setWai_b (s : State) (v : Bool) : (s.setWai v).b = s.b := rfl
@[simp] theorem State.setWai_x (s : State) (v : Bool) : (s.setWai v).x = s.x := rfl
@[simp] theorem State.setWai_x2 (s : State) (v : Bool) : (s.setWai v).x2 = s.x2 := rfl
@[simp] theorem State.setWai_curIndReg (s : State) (v : Bool) : (s.setWai v).curIndReg = s.curIndReg := rfl
@[simp] theorem State.setWai_ccr (s : State) (v : Bool) : (s.setWai v).ccr = s.ccr := rfl
@[simp] theorem State.setWai_pending (s : State) (v : Bool) : (s.setWai v).pending = s.pending := rfl
@[simp] theorem State.setWai_wai (s : State) (v : Bool) : (s.setWai v).wai = v := rfl
@[simp] theorem State.setWai_cycle (s : State) (v : Bool) : (s.setWai v).cycle = s.cycle := rfl
@[simp] theorem State.setWai_curCycles (s : State) (v : Bool) : (s.setWai v).curCycles = s.curCycles := rfl
@[simp] theorem State.setWai_mem (s : State) (v : Bool) : (s.setWai v).mem = s.mem := rfl
@[simp] theorem State.setWai_backup (s : State) (v : Bool) : (s.setWai v).backup = s.backup := rfl
@[simp] theorem State.setWai_cfg (s : State) (v : Bool) : (s.setWai v).cfg = s.cfg := rfl
@[simp] theorem State.setWai_draws (s : State) (v : Bool) : (s.setWai v).draws = s.draws := rfl
@[simp] theorem State.setWai_acc (s : State) (v : Bool) (r : Acc) : (s.setWai v).acc r = s.acc r := by cases r <;> rfl
@[simp] theorem State.setWai_ix (s : State) (v : Bool) : (s.setWai v).ix = s.ix := rfl
@[simp] theorem State.setWai_d (s : State) (v : Bool) : (s.setWai v).d = s.d := rfl

/-! ### setPending -/

@[simp] theorem State.setPending_pc (s : State) (v : Pending) : (s.setPending v).pc = s.pc := rfl
@[simp] theorem State.setPending_sp (s : State) (v : Pending) : (s.setPending v).sp = s.sp := rfl
@[simp] theorem State.setPending_a (s : State) (v : Pending) : (s.setPending v).a = s.a := rfl
@[simp] theorem State.setPending_b (s : State) (v : Pending) : (s.setPending v).b = s.b := rfl
@[simp] theorem State.setPending_x (s : State) (v : Pending) : (s.setPending v).x = s.x := rfl
@[simp] theorem State.setPending_x2 (s : State) (v : Pending) : (s.setPending v).x2 = s.x2 := rfl
@[simp] theorem State.setPending_curIndReg (s : State) (v : Pending) : (s.setPending v).curIndReg = s.curIndReg := rfl
@[simp] theorem State.setPending_ccr (s : State) (v : Pending) : (s.setPending v).ccr = s.ccr := rfl
@[simp] theorem State.setPending_pending (s : State) (v : Pending) : (s.setPending v).pending = v := rfl
@[simp] theorem State.setPending_wai (s : State) (v : Pending) : (s.setPending v).wai = s.wai := rfl
@[simp] theorem State.setPending_cycle (s : State) (v : Pending) : (s.setPending v).cycle = s.cycle := rfl
@[simp] theorem State.setPending_curCycles (s : State) (v : Pending) : (s.setPending v).curCycles = s.curCycles := rfl
@[simp] theorem State.setPending_mem (s : State) (v : Pending) : (s.setPending v).mem = s.mem := rfl
@[simp] theorem State.setPending_backup (s : State) (v : Pending) : (s.setPending v).backup = s.backup := rfl
@[simp] theorem State.setPending_cfg (s : State) (v : Pending) : (s.setPending v).cfg = s.cfg := rfl
@[simp] theorem State.setPending_draws (s : State) (v : Pending) : (s.setPending v).draws = s.draws := rfl
@[simp] theorem State.setPending_acc (s : State) (v : Pending) (r : Acc) : (s.setPending v).acc r = s.acc r := by cases r <;> rfl
@[simp] theorem State.setPending_ix (s : State) (v : Pending) : (s.setPending v).ix = s.ix := rfl
@[simp] theorem State.setPending_d (s : State) (v : Pending) : (s.setPending v).d = s.d := rfl

/-! ### setCycles -/

@[simp] theorem State.setCycles_pc (s : State) (m n : Nat) : (s.setCycles m n).pc = s.pc := rfl
@[simp] theorem State.setCycles_sp (s : State) (m n : Nat) : (s.setCycles m n).sp = s.sp := rfl
@[simp] theorem State.setCycles_a (s : State) (m n : Nat) : (s.setCycles m n).a = s.a := rfl
@[simp] theorem State.setCycles_b (s : State) (m n : Nat) : (s.setCycles m n).b = s.b := rfl
@[simp] theorem State.setCycles_x (s : State) (m n : Nat) : (s.setCycles m n).x = s.x := rfl
@[simp] theorem State.setCycles_x2 (s : State) (m n : Nat) : (s.setCycles m n).x2 = s.x2 := rfl
@[simp] theorem State.setCycles_curIndReg (s : State) (m n : Nat) : (s.setCycles m n).curIndReg = s.curIndReg := rfl
@[simp] theorem State.setCycles_ccr (s : State) (m n : Nat) : (s.setCycles m n).ccr = s.ccr := rfl
@[simp] theorem State.setCycles_pending (s : State) (m n : Nat) : (s.setCycles m n).pending = s.pending := rfl
@[simp] theorem State.setCycles_wai (s : State) (m n : Nat) : (s.setCycles m n).wai = s.wai := rfl
@[simp] theorem State.setCycles_cycle (s : State) (m n : Nat) : (s.setCycles m n).cycle = m := rfl
@[simp] theorem State.setCycles_curCycles (s : State) (m n : Nat) : (s.setCycles m n).curCycles = n := rfl
@[simp] theorem State.setCycles_mem (s : State) (m n : Nat) : (s.setCycles m n).mem = s.mem := rfl
@[simp] theorem State.setCycles_backup (s : State) (m n : Nat) : (s.setCycles m n).backup = s.backup := rfl
@[simp] theorem State.setCycles_cfg (s : State) (m n : Nat) : (s.setCycles m n).cfg = s.cfg := rfl
@[simp] theorem State.setCycles_draws (s : State) (m n : Nat) : (s.setCycles m n).draws = s.draws := rfl
@[simp] theorem State.setCycles_acc (s : State) (m n : Nat) (r : Acc) : (s.setCycles m n).acc r = s.acc r := by cases r <;> rfl
@[simp] theorem State.setCycles_ix (s : State) (m n : Nat) : (s.setCycles m n).ix = s.ix := rfl
@[simp] theorem State.setCycles_d (s : State) (m n : Nat) : (s.setCycles m n).d = s.d := rfl

/-! ### setDraws -/

@[simp] theorem State.setDraws_pc (s : State) (v : Nat) : (s.setDraws v).pc = s.pc := rfl
@[simp] theorem State.setDraws_sp (s : State) (v : Nat) : (s.setDraws v).sp = s.sp := rfl
@[simp] theorem State.setDraws_a (s : State) (v : Nat) : (s.setDraws v).a = s.a := rfl
@[simp] theorem State.setDraws_b (s : State) (v : Nat) : (s.setDraws v).b = s.b := rfl
@[simp] theorem State.setDraws_x (s : State) (v : Nat) : (s.setDraws v).x = s.x := rfl
@[simp] theorem State.setDraws_x2 (s : State) (v : Nat) : (s.setDraws v).x2 = s.x2 := rfl
@[simp] theorem State.setDraws_curIndReg (s : State) (v : Nat) : (s.setDraws v).curIndReg = s.curIndReg := rfl
@[simp] theorem State.setDraws_ccr (s : State) (v : Nat) : (s.setDraws v).ccr = s.ccr := rfl
@[simp] theorem State.setDraws_pending (s : State) (v : Nat) : (s.setDraws v).pending = s.pending := rfl
@[simp] theorem State.setDraws_wai (s : State) (v : Nat) : (s.setDraws v).wai = s.wai := rfl
@[simp] theorem State.setDraws_cycle (s : State) (v : Nat) : (s.setDraws v).cycle = s.cycle := rfl
@[simp] theorem State.setDraws_curCycles (s : State) (v : Nat) : (s.setDraws v).curCycles = s.curCycles := rfl
@[simp] theorem State.setDraws_mem (s : State) (v : Nat) : (s.setDraws v).mem = s.mem := rfl
@[simp] theorem State.setDraws_backup (s : State) (v : Nat) : (s.setDraws v).backup = s.backup := rfl
@[simp] theorem State.setDraws_cfg (s : State) (v : Nat) : (s.setDraws v).cfg = s.cfg := rfl
@[simp] theorem State.setDraws_draws (s : State) (v : Nat) : (s.setDraws v).draws = v := rfl
@[simp] theorem State.setDraws_acc (s : State) (v : Nat) (r : Acc) : (s.setDraws v).acc r = s.acc r := by cases r <;> rfl
@[simp] theorem State.setDraws_ix (s : State) (v : Nat) : (s.setDraws v).ix = s.ix := rfl
@[simp] theorem State.setDraws_d (s : State) (v : Nat) : (s.setDraws v).d = s.d := rfl

/-! ### advance -/

@[simp] theorem State.advance_pc (s : State) (n : Nat) : (s.advance n).pc = s.pc + BitVec.ofNat 16 n := rfl
@[simp] theorem State.advance_sp (s : State) (n : Nat) : (s.advance n).sp = s.sp := rfl
@[simp] theorem State.advance_a (s : State) (n : Nat) : (s.advance n).a = s.a := rfl
@[simp] theorem State.advance_b (s : State) (n : Nat) : (s.advance n).b = s.b := rfl
@[simp] theorem State.advance_x (s : State) (n : Nat) : (s.advance n).x = s.x := rfl
@[simp] theorem State.advance_x2 (s : State) (n : Nat) : (s.advance n).x2 = s.x2 := rfl
@[simp] theorem State.advance_curIndReg (s : State) (n : Nat) : (s.advance n).curIndReg = s.curIndReg := rfl
@[simp] theorem State.advance_ccr (s : State) (n : Nat) : (s.advance n).ccr = s.ccr := rfl
@[simp] theorem State.advance_pending (s : State) (n : Nat) : (s.advance n).pending = s.pending := rfl
@[simp] theorem State.advance_wai (s : State) (n : Nat) : (s.advance n).wai = s.wai := rfl
@[simp] theorem State.advance_cycle (s : State) (n : Nat) : (s.advance n).cycle = s.cycle := rfl
@[simp] theorem State.advance_curCycles (s : State) (n : Nat) : (s.advance n).curCycles = s.curCycles := rfl
@[simp] theorem State.advance_mem (s : State) (n : Nat) : (s.advance n).mem = s.mem := rfl
@[simp] theorem State.advance_backup (s : State) (n : Nat) : (s.advance n).backup = s.backup := rfl
@[simp] theorem State.advance_cfg (s : State) (n : Nat) : (s.advance n).cfg = s.cfg := rfl
@[simp] theorem State.advance_draws (s : State) (n : Nat) : (s.advance n).draws = s.draws := rfl
@[simp] theorem State.advance_ix (s : State) (n : Nat) : (s.advance n).ix = s.ix := rfl
@[simp] theorem State.advance_d (s : State) (n : Nat) : (s.advance n).d = s.d := rfl
@[simp] theorem State.advance_acc (s : State) (n : Nat) (r : Acc) : (s.advance n).acc r = s.acc r := by cases r <;> rfl

/-! ### setIx -/

@[simp] theorem State.setIx_ix (s : State) (v : Word) : (s.setIx v).ix = v := by
  unfold State.setIx; split <;> simp_all [State.ix]
@[simp] theorem State.setIx_pc (s : State) (v : Word) : (s.setIx v).pc = s.pc := by unfold State.setIx; split <;> rfl
@[simp] theorem State.setIx_sp (s : State) (v : Word) : (s.setIx v).sp = s.sp := by unfold State.setIx; split <;> rfl
@[simp] theorem State.setIx_a (s : State) (v : Word) : (s.setIx v).a = s.a := by unfold State.setIx; split <;> rfl
@[simp] theorem State.setIx_b (s : State) (v : Word) : (s.setIx v).b = s.b := by unfold State.setIx; split <;> rfl
@[simp] theorem State.setIx_curIndReg (s : State) (v : Word) : (s.setIx v).curIndReg = s.curIndReg := by unfold State.setIx; split <;> rfl
@[simp] theorem State.setIx_ccr (s : State) (v : Word) : (s.setIx v).ccr = s.ccr := by unfold State.setIx; split <;> rfl
@[simp] theorem State.setIx_pending (s : State) (v : Word) : (s.setIx v).pending = s.pending := by unfold State.setIx; split <;> rfl
@[simp] theorem State.setIx_wai (s : State) (v : Word) : (s.setIx v).wai = s.wai := by unfold State.setIx; split <;> rfl
@[simp] theorem State.setIx_cycle (s : State) (v : Word) : (s.setIx v).cycle = s.cycle := by unfold State.setIx; split <;> rfl
@[simp] theorem State.setIx_curCycles (s : State) (v : Word) : (s.setIx v).curCycles = s.curCycles := by unfold State.setIx; split <;> rfl
@[simp] theorem State.setIx_mem (s : State) (v : Word) : (s.setIx v).mem = s.mem := by unfold State.setIx; split <;> rfl
@[simp] theorem State.setIx_backup (s : State) (v : Word) : (s.setIx v).backup = s.backup := by unfold State.setIx; split <;> rfl
@[simp] theorem State.setIx_cfg (s : State) (v : Word) : (s.setIx v).cfg = s.cfg := by unfold State.setIx; split <;> rfl
@[simp] theorem State.setIx_draws (s : State) (v : Word) : (s.setIx v).draws = s.draws := by unfold State.setIx; split <;> rfl
@[simp] theorem State.setIx_d (s : State) (v : Word) : (s.setIx v).d = s.d := by unfold State.setIx; split <;> rfl
@[simp] theorem State.setIx_acc (s : State) (v : Word) (r : Acc) : (s.setIx v).acc r = s.acc r := by cases r <;> simp [State.acc]

/-- With X selected, the index register is X (10_state.md R34). -/
theorem State.ix_of_x (s : State) (h : s.curIndReg = .x) : s.ix = s.x := by simp [State.ix, h]

theorem State.setIx_of_x (s : State) (v : Word) (h : s.curIndReg = .x) : s.setIx v = { s with x := v } := by
  simp [State.setIx, h]

theorem State.setIx_of_x2 (s : State) (v : Word) (h : s.curIndReg = .x2) : s.setIx v = { s with x2 := v } := by
  simp [State.setIx, h]

/-! ### setAcc -/

@[simp] theorem State.setAcc_pc (s : State) (r : Acc) (v : Byte) : (s.setAcc r v).pc = s.pc := by cases r <;> rfl
@[simp] theorem State.setAcc_sp (s : State) (r : Acc) (v : Byte) : (s.setAcc r v).sp = s.sp := by cases r <;> rfl
@[simp] theorem State.setAcc_x (s : State) (r : Acc) (v : Byte) : (s.setAcc r v).x = s.x := by cases r <;> rfl
@[simp] theorem State.setAcc_x2 (s : State) (r : Acc) (v : Byte) : (s.setAcc r v).x2 = s.x2 := by cases r <;> rfl
@[simp] theorem State.setAcc_curIndReg (s : State) (r : Acc) (v : Byte) : (s.setAcc r v).curIndReg = s.curIndReg := by cases r <;> rfl
@[simp] theorem State.setAcc_ccr (s : State) (r : Acc) (v : Byte) : (s.setAcc r v).ccr = s.ccr := by cases r <;> rfl
@[simp] theorem State.setAcc_pending (s : State) (r : Acc) (v : Byte) : (s.setAcc r v).pending = s.pending := by cases r <;> rfl
@[simp] theorem State.setAcc_wai (s : State) (r : Acc) (v : Byte) : (s.setAcc r v).wai = s.wai := by cases r <;> rfl
@[simp] theorem State.setAcc_cycle (s : State) (r : Acc) (v : Byte) : (s.setAcc r v).cycle = s.cycle := by cases r <;> rfl
@[simp] theorem State.setAcc_curCycles (s : State) (r : Acc) (v : Byte) : (s.setAcc r v).curCycles = s.curCycles := by cases r <;> rfl
@[simp] theorem State.setAcc_mem (s : State) (r : Acc) (v : Byte) : (s.setAcc r v).mem = s.mem := by cases r <;> rfl
@[simp] theorem State.setAcc_backup (s : State) (r : Acc) (v : Byte) : (s.setAcc r v).backup = s.backup := by cases r <;> rfl
@[simp] theorem State.setAcc_cfg (s : State) (r : Acc) (v : Byte) : (s.setAcc r v).cfg = s.cfg := by cases r <;> rfl
@[simp] theorem State.setAcc_draws (s : State) (r : Acc) (v : Byte) : (s.setAcc r v).draws = s.draws := by cases r <;> rfl
@[simp] theorem State.setAcc_ix (s : State) (r : Acc) (v : Byte) : (s.setAcc r v).ix = s.ix := by cases r <;> rfl
@[simp] theorem State.setAcc_acc (s : State) (r : Acc) (v : Byte) : (s.setAcc r v).acc r = v := by cases r <;> rfl
@[simp] theorem State.setAcc_acc_ne (s : State) (r q : Acc) (v : Byte) (h : q ≠ r) : (s.setAcc r v).acc q = s.acc q := by
  cases r <;> cases q <;> first | rfl | exact absurd rfl h
@[simp] theorem State.acc_a (s : State) : s.acc .a = s.a := rfl
@[simp] theorem State.acc_b (s : State) : s.acc .b = s.b := rfl
@[simp] theorem State.setAcc_a_eq (s : State) (v : Byte) : s.setAcc .a v = s.setA v := rfl
@[simp] theorem State.setAcc_b_eq (s : State) (v : Byte) : s.setAcc .b v = s.setB v := rfl

/-! ### setD -/

@[simp] theorem State.setD_a (s : State) (v : Word) : (s.setD v).a = hiByte v := rfl
@[simp] theorem State.setD_b (s : State) (v : Word) : (s.setD v).b = loByte v := rfl
@[simp] theorem State.setD_pc (s : State) (v : Word) : (s.setD v).pc = s.pc := rfl
@[simp] theorem State.setD_sp (s : State) (v : Word) : (s.setD v).sp = s.sp := rfl
@[simp] theorem State.setD_x (s : State) (v : Word) : (s.setD v).x = s.x := rfl
@[simp] theorem State.setD_x2 (s : State) (v : Word) : (s.setD v).x2 = s.x2 := rfl
@[simp] theorem State.setD_curIndReg (s : State) (v : Word) : (s.setD v).curIndReg = s.curIndReg := rfl
@[simp] theorem State.setD_ccr (s : State) (v : Word) : (s.setD v).ccr = s.ccr := rfl
@[simp] theorem State.setD_pending (s : State) (v : Word) : (s.setD v).pending = s.pending := rfl
@[simp] theorem State.setD_wai (s : State) (v : Word) : (s.setD v).wai = s.wai := rfl
@[simp] theorem State.setD_cycle (s : State) (v : Word) : (s.setD v).cycle = s.cycle := rfl
@[simp] theorem State.setD_curCycles (s : State) (v : Word) : (s.setD v).curCycles = s.curCycles := rfl
@[simp] theorem State.setD_mem (s : State) (v : Word) : (s.setD v).mem = s.mem := rfl
@[simp] theorem State.setD_backup (s : State) (v : Word) : (s.setD v).backup = s.backup := rfl
@[simp] theorem State.setD_cfg (s : State) (v : Word) : (s.setD v).cfg = s.cfg := rfl
@[simp] theorem State.setD_draws (s : State) (v : Word) : (s.setD v).draws = s.draws := rfl
@[simp] theorem State.setD_ix (s : State) (v : Word) : (s.setD v).ix = s.ix := rfl

/-! ### store8 and store16 -/

@[simp] theorem State.store8_pc (s : State) (a : Word) (v : Byte) : (s.store8 a v).pc = s.pc := rfl
@[simp] theorem State.store8_sp (s : State) (a : Word) (v : Byte) : (s.store8 a v).sp = s.sp := rfl
@[simp] theorem State.store8_a (s : State) (a : Word) (v : Byte) : (s.store8 a v).a = s.a := rfl
@[simp] theorem State.store8_b (s : State) (a : Word) (v : Byte) : (s.store8 a v).b = s.b := rfl
@[simp] theorem State.store8_x (s : State) (a : Word) (v : Byte) : (s.store8 a v).x = s.x := rfl
@[simp] theorem State.store8_x2 (s : State) (a : Word) (v : Byte) : (s.store8 a v).x2 = s.x2 := rfl
@[simp] theorem State.store8_curIndReg (s : State) (a : Word) (v : Byte) : (s.store8 a v).curIndReg = s.curIndReg := rfl
@[simp] theorem State.store8_ccr (s : State) (a : Word) (v : Byte) : (s.store8 a v).ccr = s.ccr := rfl
@[simp] theorem State.store8_pending (s : State) (a : Word) (v : Byte) : (s.store8 a v).pending = s.pending := rfl
@[simp] theorem State.store8_wai (s : State) (a : Word) (v : Byte) : (s.store8 a v).wai = s.wai := rfl
@[simp] theorem State.store8_cycle (s : State) (a : Word) (v : Byte) : (s.store8 a v).cycle = s.cycle := rfl
@[simp] theorem State.store8_curCycles (s : State) (a : Word) (v : Byte) : (s.store8 a v).curCycles = s.curCycles := rfl
@[simp] theorem State.store8_mem (s : State) (a : Word) (v : Byte) : (s.store8 a v).mem = s.mem.write a v := rfl
@[simp] theorem State.store8_backup (s : State) (a : Word) (v : Byte) : (s.store8 a v).backup = s.backup := rfl
@[simp] theorem State.store8_cfg (s : State) (a : Word) (v : Byte) : (s.store8 a v).cfg = s.cfg := rfl
@[simp] theorem State.store8_draws (s : State) (a : Word) (v : Byte) : (s.store8 a v).draws = s.draws := rfl
@[simp] theorem State.store8_ix (s : State) (a : Word) (v : Byte) : (s.store8 a v).ix = s.ix := rfl
@[simp] theorem State.store8_d (s : State) (a : Word) (v : Byte) : (s.store8 a v).d = s.d := rfl
@[simp] theorem State.store8_acc (s : State) (a : Word) (v : Byte) (r : Acc) : (s.store8 a v).acc r = s.acc r := by cases r <;> rfl

@[simp] theorem State.store16_pc (s : State) (a : Word) (v : Word) : (s.store16 a v).pc = s.pc := rfl
@[simp] theorem State.store16_sp (s : State) (a : Word) (v : Word) : (s.store16 a v).sp = s.sp := rfl
@[simp] theorem State.store16_a (s : State) (a : Word) (v : Word) : (s.store16 a v).a = s.a := rfl
@[simp] theorem State.store16_b (s : State) (a : Word) (v : Word) : (s.store16 a v).b = s.b := rfl
@[simp] theorem State.store16_x (s : State) (a : Word) (v : Word) : (s.store16 a v).x = s.x := rfl
@[simp] theorem State.store16_x2 (s : State) (a : Word) (v : Word) : (s.store16 a v).x2 = s.x2 := rfl
@[simp] theorem State.store16_curIndReg (s : State) (a : Word) (v : Word) : (s.store16 a v).curIndReg = s.curIndReg := rfl
@[simp] theorem State.store16_ccr (s : State) (a : Word) (v : Word) : (s.store16 a v).ccr = s.ccr := rfl
@[simp] theorem State.store16_pending (s : State) (a : Word) (v : Word) : (s.store16 a v).pending = s.pending := rfl
@[simp] theorem State.store16_wai (s : State) (a : Word) (v : Word) : (s.store16 a v).wai = s.wai := rfl
@[simp] theorem State.store16_cycle (s : State) (a : Word) (v : Word) : (s.store16 a v).cycle = s.cycle := rfl
@[simp] theorem State.store16_curCycles (s : State) (a : Word) (v : Word) : (s.store16 a v).curCycles = s.curCycles := rfl
@[simp] theorem State.store16_mem (s : State) (a : Word) (v : Word) : (s.store16 a v).mem = s.mem.write16 a v := rfl
@[simp] theorem State.store16_backup (s : State) (a : Word) (v : Word) : (s.store16 a v).backup = s.backup := rfl
@[simp] theorem State.store16_cfg (s : State) (a : Word) (v : Word) : (s.store16 a v).cfg = s.cfg := rfl
@[simp] theorem State.store16_draws (s : State) (a : Word) (v : Word) : (s.store16 a v).draws = s.draws := rfl
@[simp] theorem State.store16_ix (s : State) (a : Word) (v : Word) : (s.store16 a v).ix = s.ix := rfl
@[simp] theorem State.store16_d (s : State) (a : Word) (v : Word) : (s.store16 a v).d = s.d := rfl
@[simp] theorem State.store16_acc (s : State) (a : Word) (v : Word) (r : Acc) : (s.store16 a v).acc r = s.acc r := by cases r <;> rfl

end Sys2Proof.Machine
end

