-- ==== Sys2Proof/Laws/Ops.lean ====
section
/-! SUPPORT. What each shared operation does: its effect on every field, on every byte of memory, and on the
canonical form. -/

namespace Sys2Proof.Machine

/-! ## Push and pull (20_memory.md R78 to R80) -/

@[simp] theorem push8_pc (v : Byte) (s : State) : (push8 v s).pc = s.pc := rfl
@[simp] theorem push8_a (v : Byte) (s : State) : (push8 v s).a = s.a := rfl
@[simp] theorem push8_b (v : Byte) (s : State) : (push8 v s).b = s.b := rfl
@[simp] theorem push8_x (v : Byte) (s : State) : (push8 v s).x = s.x := rfl
@[simp] theorem push8_x2 (v : Byte) (s : State) : (push8 v s).x2 = s.x2 := rfl
@[simp] theorem push8_curIndReg (v : Byte) (s : State) : (push8 v s).curIndReg = s.curIndReg := rfl
@[simp] theorem push8_ccr (v : Byte) (s : State) : (push8 v s).ccr = s.ccr := rfl
@[simp] theorem push8_pending (v : Byte) (s : State) : (push8 v s).pending = s.pending := rfl
@[simp] theorem push8_wai (v : Byte) (s : State) : (push8 v s).wai = s.wai := rfl
@[simp] theorem push8_cycle (v : Byte) (s : State) : (push8 v s).cycle = s.cycle := rfl
@[simp] theorem push8_curCycles (v : Byte) (s : State) : (push8 v s).curCycles = s.curCycles := rfl
@[simp] theorem push8_backup (v : Byte) (s : State) : (push8 v s).backup = s.backup := rfl
@[simp] theorem push8_cfg (v : Byte) (s : State) : (push8 v s).cfg = s.cfg := rfl
@[simp] theorem push8_draws (v : Byte) (s : State) : (push8 v s).draws = s.draws := rfl
@[simp] theorem push8_ix (v : Byte) (s : State) : (push8 v s).ix = s.ix := rfl
@[simp] theorem push8_sp (v : Byte) (s : State) : (push8 v s).sp = s.sp - 1 := rfl
@[simp] theorem push8_mem (v : Byte) (s : State) : (push8 v s).mem = s.mem.write s.sp v := rfl

@[simp] theorem push16_pc (v : Word) (s : State) : (push16 v s).pc = s.pc := rfl
@[simp] theorem push16_a (v : Word) (s : State) : (push16 v s).a = s.a := rfl
@[simp] theorem push16_b (v : Word) (s : State) : (push16 v s).b = s.b := rfl
@[simp] theorem push16_x (v : Word) (s : State) : (push16 v s).x = s.x := rfl
@[simp] theorem push16_x2 (v : Word) (s : State) : (push16 v s).x2 = s.x2 := rfl
@[simp] theorem push16_curIndReg (v : Word) (s : State) : (push16 v s).curIndReg = s.curIndReg := rfl
@[simp] theorem push16_ccr (v : Word) (s : State) : (push16 v s).ccr = s.ccr := rfl
@[simp] theorem push16_pending (v : Word) (s : State) : (push16 v s).pending = s.pending := rfl
@[simp] theorem push16_wai (v : Word) (s : State) : (push16 v s).wai = s.wai := rfl
@[simp] theorem push16_cycle (v : Word) (s : State) : (push16 v s).cycle = s.cycle := rfl
@[simp] theorem push16_curCycles (v : Word) (s : State) : (push16 v s).curCycles = s.curCycles := rfl
@[simp] theorem push16_backup (v : Word) (s : State) : (push16 v s).backup = s.backup := rfl
@[simp] theorem push16_cfg (v : Word) (s : State) : (push16 v s).cfg = s.cfg := rfl
@[simp] theorem push16_draws (v : Word) (s : State) : (push16 v s).draws = s.draws := rfl
@[simp] theorem push16_ix (v : Word) (s : State) : (push16 v s).ix = s.ix := rfl
@[simp] theorem push16_sp (v : Word) (s : State) : (push16 v s).sp = s.sp - 2 := by
  show s.sp - 1 - 1 = s.sp - 2
  rw [BitVec.sub_sub]
  rfl

theorem push16_mem (v : Word) (s : State) : (push16 v s).mem = (s.mem.write s.sp (loByte v)).write (s.sp - 1) (hiByte v) := rfl

/-- The two bytes of `Push16`: the low byte at SP, the high byte at SP - 1 (R80). -/
theorem push16_read (v : Word) (s : State) (b : Word) : (push16 v s).mem.read b =
    if b = s.sp - 1 then hiByte v else if b = s.sp then loByte v else s.mem.read b := by
  show ((s.mem.write s.sp (loByte v)).write (s.sp - 1) (hiByte v)).read b = _
  rw [Memory.read_write, Memory.read_write]

@[simp] theorem pull8_fst (s : State) : (pull8 s).1 = s.mem.read (s.sp + 1) := rfl
@[simp] theorem pull8_snd (s : State) : (pull8 s).2 = s.setSp (s.sp + 1) := rfl

@[simp] theorem pull16_fst (s : State) : (pull16 s).1 = s.mem.read16 (s.sp + 1) := rfl
@[simp] theorem pull16_snd (s : State) : (pull16 s).2 = s.setSp (s.sp + 2) := by
  show (s.setSp (s.sp + 1)).setSp (s.sp + 1 + 1) = s.setSp (s.sp + 2)
  rw [BitVec.add_assoc]
  rfl

/-! ## The context frame (60_exceptions.md R432) -/

@[simp] theorem pushContext_pc (ret : Word) (s : State) : (pushContext ret s).pc = s.pc := by simp [pushContext]
@[simp] theorem pushContext_a (ret : Word) (s : State) : (pushContext ret s).a = s.a := by simp [pushContext]
@[simp] theorem pushContext_b (ret : Word) (s : State) : (pushContext ret s).b = s.b := by simp [pushContext]
@[simp] theorem pushContext_x (ret : Word) (s : State) : (pushContext ret s).x = s.x := by simp [pushContext]
@[simp] theorem pushContext_x2 (ret : Word) (s : State) : (pushContext ret s).x2 = s.x2 := by simp [pushContext]
@[simp] theorem pushContext_curIndReg (ret : Word) (s : State) : (pushContext ret s).curIndReg = s.curIndReg := by simp [pushContext]
@[simp] theorem pushContext_ccr (ret : Word) (s : State) : (pushContext ret s).ccr = s.ccr := by simp [pushContext]
@[simp] theorem pushContext_pending (ret : Word) (s : State) : (pushContext ret s).pending = s.pending := by simp [pushContext]
@[simp] theorem pushContext_wai (ret : Word) (s : State) : (pushContext ret s).wai = s.wai := by simp [pushContext]
@[simp] theorem pushContext_cycle (ret : Word) (s : State) : (pushContext ret s).cycle = s.cycle := by simp [pushContext]
@[simp] theorem pushContext_curCycles (ret : Word) (s : State) : (pushContext ret s).curCycles = s.curCycles := by simp [pushContext]
@[simp] theorem pushContext_backup (ret : Word) (s : State) : (pushContext ret s).backup = s.backup := by simp [pushContext]
@[simp] theorem pushContext_cfg (ret : Word) (s : State) : (pushContext ret s).cfg = s.cfg := by simp [pushContext]
@[simp] theorem pushContext_draws (ret : Word) (s : State) : (pushContext ret s).draws = s.draws := by simp [pushContext]
@[simp] theorem pushContext_ix (ret : Word) (s : State) : (pushContext ret s).ix = s.ix := by simp [pushContext]
@[simp] theorem pushContext_sp (ret : Word) (s : State) : (pushContext ret s).sp = s.sp - 7 := by
  simp only [pushContext, push8_sp, push16_sp, BitVec.sub_sub]
  rfl

/-- What `PushContext` does, field by field (R432). -/
theorem pushContext_eq (ret : Word) (s : State) :
    pushContext ret s = { s with mem := (pushContext ret s).mem, sp := s.sp - 7 } := by
  ext <;> simp

/-- The memory of `PushContext` as its seven byte writes, in order. -/
theorem pushContext_mem (ret : Word) (s : State) : (pushContext ret s).mem =
    ((((((s.mem.write s.sp (loByte ret)).write (s.sp - 1) (hiByte ret)).write (s.sp - 2) (loByte s.ix)).write
      (s.sp - 3) (hiByte s.ix)).write (s.sp - 4) s.a).write (s.sp - 5) s.b).write (s.sp - 6) (ccrByte s.ccr) := by
  simp only [pushContext, push8_mem, push16_mem, push8_sp, push16_sp, BitVec.sub_sub]
  rfl

/-- `PushContext` keeps the canonical form. -/
theorem pushContext_wf (ret : Word) (s : State) (h : s.mem.wf = true) : (pushContext ret s).mem.wf = true := by
  rw [pushContext_mem]
  repeat apply Memory.wf_write
  exact h

/-- `PullContext` reads the seven bytes above SP (R432). -/
theorem pullContext_eq (s : State) : pullContext s =
    ((((((s.setSp (s.sp + 7)).setCcr (ccrOfByte (s.mem.read (s.sp + 1)))).setB (s.mem.read (s.sp + 2))).setA
      (s.mem.read (s.sp + 3))).setIx (s.mem.read16 (s.sp + 4))).setPc (s.mem.read16 (s.sp + 6))) := by
  simp only [pullContext, pull8_fst, pull8_snd, pull16_fst, pull16_snd, State.setCcr_sp, State.setCcr_mem, State.setSp_sp,
    State.setSp_mem, State.setB_sp, State.setB_mem, State.setA_sp, State.setA_mem, State.setIx_sp, State.setIx_mem,
    BitVec.add_assoc]
  cases h : s.curIndReg <;> simp [State.setIx, State.setCcr, State.setSp, State.setB, State.setA, State.setPc, h]

/-! ## Exceptions (60_exceptions.md R433, 45_ccr_system.md R390) -/

@[simp] theorem takeException_a (n : Nat) (ret : Word) (st : Bool) (s : State) : (takeException n ret st s).a = s.a := by cases st <;> simp [takeException]
@[simp] theorem takeException_b (n : Nat) (ret : Word) (st : Bool) (s : State) : (takeException n ret st s).b = s.b := by cases st <;> simp [takeException]
@[simp] theorem takeException_x (n : Nat) (ret : Word) (st : Bool) (s : State) : (takeException n ret st s).x = s.x := by cases st <;> simp [takeException]
@[simp] theorem takeException_x2 (n : Nat) (ret : Word) (st : Bool) (s : State) : (takeException n ret st s).x2 = s.x2 := by cases st <;> simp [takeException]
@[simp] theorem takeException_curIndReg (n : Nat) (ret : Word) (st : Bool) (s : State) : (takeException n ret st s).curIndReg = s.curIndReg := by cases st <;> simp [takeException]
@[simp] theorem takeException_pending (n : Nat) (ret : Word) (st : Bool) (s : State) : (takeException n ret st s).pending = s.pending := by cases st <;> simp [takeException]
@[simp] theorem takeException_wai (n : Nat) (ret : Word) (st : Bool) (s : State) : (takeException n ret st s).wai = s.wai := by cases st <;> simp [takeException]
@[simp] theorem takeException_cycle (n : Nat) (ret : Word) (st : Bool) (s : State) : (takeException n ret st s).cycle = s.cycle := by cases st <;> simp [takeException]
@[simp] theorem takeException_curCycles (n : Nat) (ret : Word) (st : Bool) (s : State) : (takeException n ret st s).curCycles = s.curCycles := by cases st <;> simp [takeException]
@[simp] theorem takeException_backup (n : Nat) (ret : Word) (st : Bool) (s : State) : (takeException n ret st s).backup = s.backup := by cases st <;> simp [takeException]
@[simp] theorem takeException_cfg (n : Nat) (ret : Word) (st : Bool) (s : State) : (takeException n ret st s).cfg = s.cfg := by cases st <;> simp [takeException]
@[simp] theorem takeException_draws (n : Nat) (ret : Word) (st : Bool) (s : State) : (takeException n ret st s).draws = s.draws := by cases st <;> simp [takeException]
@[simp] theorem takeException_ix (n : Nat) (ret : Word) (st : Bool) (s : State) : (takeException n ret st s).ix = s.ix := by cases st <;> simp [takeException]
@[simp] theorem takeException_ccr (n : Nat) (ret : Word) (st : Bool) (s : State) :
    (takeException n ret st s).ccr = { s.ccr with i := true } := by cases st <;> simp [takeException]
@[simp] theorem takeException_sp (n : Nat) (ret : Word) (st : Bool) (s : State) :
    (takeException n ret st s).sp = if st then s.sp else s.sp - 7 := by
  cases st <;> simp [takeException]
@[simp] theorem takeException_mem (n : Nat) (ret : Word) (st : Bool) (s : State) :
    (takeException n ret st s).mem = if st then s.mem else (pushContext ret s).mem := by
  cases st <;> simp [takeException]
@[simp] theorem takeException_pc (n : Nat) (ret : Word) (st : Bool) (s : State) :
    (takeException n ret st s).pc = vectorFetch (takeException n ret st s).mem n := by
  cases st <;> simp [takeException]

/-- What taking an exception does, field by field. -/
theorem takeException_eq (n : Nat) (ret : Word) (st : Bool) (s : State) : takeException n ret st s =
    { s with
      mem := if st then s.mem else (pushContext ret s).mem
      sp := if st then s.sp else s.sp - 7
      ccr := { s.ccr with i := true }
      pc := vectorFetch (if st then s.mem else (pushContext ret s).mem) n } := by
  ext <;> simp

/-- What `Service(k)` does, field by field (R433). -/
theorem service_eq (k : Request) (s : State) : service k s =
    { s with
      mem := if s.wai then s.mem else (pushContext s.pc s).mem
      sp := if s.wai then s.sp else s.sp - 7
      ccr := { s.ccr with i := true }
      pc := vectorFetch (if s.wai then s.mem else (pushContext s.pc s).mem) k.index
      wai := false } := by
  rw [service, takeException_eq]
  rfl

/-- The frame depends on the registers stacked, SP and memory alone (R432). -/
theorem pushContext_mem_congr {s t : State} (ret : Word) (hm : t.mem = s.mem) (hsp : t.sp = s.sp) (hx : t.ix = s.ix)
    (ha : t.a = s.a) (hb : t.b = s.b) (hc : t.ccr = s.ccr) : (pushContext ret t).mem = (pushContext ret s).mem := by
  rw [pushContext_mem, pushContext_mem, hm, hsp, hx, ha, hb, hc]

/-! ## Outcomes -/

@[simp] theorem andThen_next (s : State) (k : State → State) : andThen (.next s) k = .next (k s) := rfl
@[simp] theorem andThen_fault (f : Fault) (k : State → State) : andThen (.fault f) k = .fault f := rfl
@[simp] theorem andThen_refused (q : Refusal) (k : State → State) : andThen (.refused q) k = .refused q := rfl

/-- What a continued outcome can be: a next state comes from a next state. -/
theorem andThen_eq_next (r : Result) (k : State → State) (t : State) :
    andThen r k = .next t ↔ ∃ u, r = .next u ∧ k u = t := by
  cases r <;> simp [andThen]

end Sys2Proof.Machine
end

