-- ==== Sys2Proof/Laws/PerInstr.lean ====
section
/-! SUPPORT. Per-instruction lemmas. Family DecodeEncode: decoding the encoding of an instruction the variant has gives
the instruction back, every operand at every value. -/

namespace Sys2Proof.Laws.DecodeEncode

/-- The statement about one instruction. -/
def Statement (i : Instr) : Prop :=
  ∀ (v : Variant) (rest : List Byte), WellFormed v i = true → decode v (encode i ++ rest) = .ok (i, rest)

theorem ldaa (o : Operand8) : Statement (.ldaa o) := by
  intro v rest _
  rcases o with x | (x | x | x) <;> cases v <;>
    first | rfl | ((conv_rhs => rw [← joinBytes_hiByte_loByte x]); rfl)

theorem ldab (o : Operand8) : Statement (.ldab o) := by
  intro v rest _
  rcases o with x | (x | x | x) <;> cases v <;>
    first | rfl | ((conv_rhs => rw [← joinBytes_hiByte_loByte x]); rfl)

theorem staa (m : MemOperand) : Statement (.staa m) := by
  intro v rest h
  rcases m with x | x | x <;> cases v <;>
    first | rfl | exact absurd h Bool.false_ne_true | ((conv_rhs => rw [← joinBytes_hiByte_loByte x]); rfl)

theorem stab (m : MemOperand) : Statement (.stab m) := by
  intro v rest h
  rcases m with x | x | x <;> cases v <;>
    first | rfl | exact absurd h Bool.false_ne_true | ((conv_rhs => rw [← joinBytes_hiByte_loByte x]); rfl)

theorem lds (o : Operand16) : Statement (.lds o) := by
  intro v rest h
  rcases o with x | (x | x | x) <;> cases v <;>
    first | rfl | exact absurd h Bool.false_ne_true | ((conv_rhs => rw [← joinBytes_hiByte_loByte x]); rfl)

theorem ldx (o : Operand16) : Statement (.ldx o) := by
  intro v rest h
  rcases o with x | (x | x | x) <;> cases v <;>
    first | rfl | exact absurd h Bool.false_ne_true | ((conv_rhs => rw [← joinBytes_hiByte_loByte x]); rfl)

theorem sts (m : MemOperand) : Statement (.sts m) := by
  intro v rest h
  rcases m with x | x | x <;> cases v <;>
    first | rfl | exact absurd h Bool.false_ne_true | ((conv_rhs => rw [← joinBytes_hiByte_loByte x]); rfl)

theorem stx (m : MemOperand) : Statement (.stx m) := by
  intro v rest h
  rcases m with x | x | x <;> cases v <;>
    first | rfl | exact absurd h Bool.false_ne_true | ((conv_rhs => rw [← joinBytes_hiByte_loByte x]); rfl)

theorem ldd (o : Operand16) : Statement (.ldd o) := by
  intro v rest h
  rcases o with x | (x | x | x) <;> cases v <;>
    first | rfl | exact absurd h Bool.false_ne_true | ((conv_rhs => rw [← joinBytes_hiByte_loByte x]); rfl)

theorem std (m : MemOperand) : Statement (.std m) := by
  intro v rest h
  rcases m with x | x | x <;> cases v <;>
    first | rfl | exact absurd h Bool.false_ne_true | ((conv_rhs => rw [← joinBytes_hiByte_loByte x]); rfl)

theorem tab : Statement (.tab) := by
  intro v rest _
  cases v <;> rfl

theorem tba : Statement (.tba) := by
  intro v rest _
  cases v <;> rfl

theorem tap : Statement (.tap) := by
  intro v rest _
  cases v <;> rfl

theorem tpa : Statement (.tpa) := by
  intro v rest _
  cases v <;> rfl

theorem tsx : Statement (.tsx) := by
  intro v rest _
  cases v <;> rfl

theorem txs : Statement (.txs) := by
  intro v rest _
  cases v <;> rfl

theorem psha : Statement (.psha) := by
  intro v rest _
  cases v <;> rfl

theorem pshb : Statement (.pshb) := by
  intro v rest _
  cases v <;> rfl

theorem pula : Statement (.pula) := by
  intro v rest _
  cases v <;> rfl

theorem pulb : Statement (.pulb) := by
  intro v rest _
  cases v <;> rfl

theorem pshx : Statement (.pshx) := by
  intro v rest h
  cases v <;>
    first | rfl | cases h

theorem pulx : Statement (.pulx) := by
  intro v rest h
  cases v <;>
    first | rfl | cases h

theorem adda (o : Operand8) : Statement (.adda o) := by
  intro v rest _
  rcases o with x | (x | x | x) <;> cases v <;>
    first | rfl | ((conv_rhs => rw [← joinBytes_hiByte_loByte x]); rfl)

theorem addb (o : Operand8) : Statement (.addb o) := by
  intro v rest _
  rcases o with x | (x | x | x) <;> cases v <;>
    first | rfl | ((conv_rhs => rw [← joinBytes_hiByte_loByte x]); rfl)

theorem adca (o : Operand8) : Statement (.adca o) := by
  intro v rest _
  rcases o with x | (x | x | x) <;> cases v <;>
    first | rfl | ((conv_rhs => rw [← joinBytes_hiByte_loByte x]); rfl)

theorem adcb (o : Operand8) : Statement (.adcb o) := by
  intro v rest _
  rcases o with x | (x | x | x) <;> cases v <;>
    first | rfl | ((conv_rhs => rw [← joinBytes_hiByte_loByte x]); rfl)

theorem suba (o : Operand8) : Statement (.suba o) := by
  intro v rest _
  rcases o with x | (x | x | x) <;> cases v <;>
    first | rfl | ((conv_rhs => rw [← joinBytes_hiByte_loByte x]); rfl)

theorem subb (o : Operand8) : Statement (.subb o) := by
  intro v rest _
  rcases o with x | (x | x | x) <;> cases v <;>
    first | rfl | ((conv_rhs => rw [← joinBytes_hiByte_loByte x]); rfl)

theorem sbca (o : Operand8) : Statement (.sbca o) := by
  intro v rest _
  rcases o with x | (x | x | x) <;> cases v <;>
    first | rfl | ((conv_rhs => rw [← joinBytes_hiByte_loByte x]); rfl)

theorem sbcb (o : Operand8) : Statement (.sbcb o) := by
  intro v rest _
  rcases o with x | (x | x | x) <;> cases v <;>
    first | rfl | ((conv_rhs => rw [← joinBytes_hiByte_loByte x]); rfl)

theorem cmpa (o : Operand8) : Statement (.cmpa o) := by
  intro v rest _
  rcases o with x | (x | x | x) <;> cases v <;>
    first | rfl | ((conv_rhs => rw [← joinBytes_hiByte_loByte x]); rfl)

theorem cmpb (o : Operand8) : Statement (.cmpb o) := by
  intro v rest _
  rcases o with x | (x | x | x) <;> cases v <;>
    first | rfl | ((conv_rhs => rw [← joinBytes_hiByte_loByte x]); rfl)

theorem anda (o : Operand8) : Statement (.anda o) := by
  intro v rest _
  rcases o with x | (x | x | x) <;> cases v <;>
    first | rfl | ((conv_rhs => rw [← joinBytes_hiByte_loByte x]); rfl)

theorem andb (o : Operand8) : Statement (.andb o) := by
  intro v rest _
  rcases o with x | (x | x | x) <;> cases v <;>
    first | rfl | ((conv_rhs => rw [← joinBytes_hiByte_loByte x]); rfl)

theorem bita (o : Operand8) : Statement (.bita o) := by
  intro v rest _
  rcases o with x | (x | x | x) <;> cases v <;>
    first | rfl | ((conv_rhs => rw [← joinBytes_hiByte_loByte x]); rfl)

theorem bitb (o : Operand8) : Statement (.bitb o) := by
  intro v rest _
  rcases o with x | (x | x | x) <;> cases v <;>
    first | rfl | ((conv_rhs => rw [← joinBytes_hiByte_loByte x]); rfl)

theorem eora (o : Operand8) : Statement (.eora o) := by
  intro v rest _
  rcases o with x | (x | x | x) <;> cases v <;>
    first | rfl | ((conv_rhs => rw [← joinBytes_hiByte_loByte x]); rfl)

theorem eorb (o : Operand8) : Statement (.eorb o) := by
  intro v rest _
  rcases o with x | (x | x | x) <;> cases v <;>
    first | rfl | ((conv_rhs => rw [← joinBytes_hiByte_loByte x]); rfl)

theorem oraa (o : Operand8) : Statement (.oraa o) := by
  intro v rest _
  rcases o with x | (x | x | x) <;> cases v <;>
    first | rfl | ((conv_rhs => rw [← joinBytes_hiByte_loByte x]); rfl)

theorem orab (o : Operand8) : Statement (.orab o) := by
  intro v rest _
  rcases o with x | (x | x | x) <;> cases v <;>
    first | rfl | ((conv_rhs => rw [← joinBytes_hiByte_loByte x]); rfl)

theorem aba : Statement (.aba) := by
  intro v rest _
  cases v <;> rfl

theorem sba : Statement (.sba) := by
  intro v rest _
  cases v <;> rfl

theorem cba : Statement (.cba) := by
  intro v rest _
  cases v <;> rfl

theorem daa : Statement (.daa) := by
  intro v rest _
  cases v <;> rfl

theorem addd (o : Operand16) : Statement (.addd o) := by
  intro v rest h
  rcases o with x | (x | x | x) <;> cases v <;>
    first | rfl | exact absurd h Bool.false_ne_true | ((conv_rhs => rw [← joinBytes_hiByte_loByte x]); rfl)

theorem subd (o : Operand16) : Statement (.subd o) := by
  intro v rest h
  rcases o with x | (x | x | x) <;> cases v <;>
    first | rfl | exact absurd h Bool.false_ne_true | ((conv_rhs => rw [← joinBytes_hiByte_loByte x]); rfl)

theorem cpx (o : Operand16) : Statement (.cpx o) := by
  intro v rest h
  rcases o with x | (x | x | x) <;> cases v <;>
    first | rfl | exact absurd h Bool.false_ne_true | ((conv_rhs => rw [← joinBytes_hiByte_loByte x]); rfl)

theorem mul : Statement (.mul) := by
  intro v rest h
  cases v <;>
    first | rfl | cases h

theorem inx : Statement (.inx) := by
  intro v rest _
  cases v <;> rfl

theorem dex : Statement (.dex) := by
  intro v rest _
  cases v <;> rfl

theorem ins : Statement (.ins) := by
  intro v rest _
  cases v <;> rfl

theorem des : Statement (.des) := by
  intro v rest _
  cases v <;> rfl

theorem abx : Statement (.abx) := by
  intro v rest h
  cases v <;>
    first | rfl | cases h

theorem nega : Statement (.nega) := by
  intro v rest _
  cases v <;> rfl

theorem negb : Statement (.negb) := by
  intro v rest _
  cases v <;> rfl

theorem neg (m : IndExt) : Statement (.neg m) := by
  intro v rest h
  rcases m with x | x <;> cases v <;>
    first | rfl | exact absurd h Bool.false_ne_true | ((conv_rhs => rw [← joinBytes_hiByte_loByte x]); rfl)

theorem coma : Statement (.coma) := by
  intro v rest _
  cases v <;> rfl

theorem comb : Statement (.comb) := by
  intro v rest _
  cases v <;> rfl

theorem com (m : IndExt) : Statement (.com m) := by
  intro v rest h
  rcases m with x | x <;> cases v <;>
    first | rfl | exact absurd h Bool.false_ne_true | ((conv_rhs => rw [← joinBytes_hiByte_loByte x]); rfl)

theorem lsra : Statement (.lsra) := by
  intro v rest _
  cases v <;> rfl

theorem lsrb : Statement (.lsrb) := by
  intro v rest _
  cases v <;> rfl

theorem lsr (m : IndExt) : Statement (.lsr m) := by
  intro v rest h
  rcases m with x | x <;> cases v <;>
    first | rfl | exact absurd h Bool.false_ne_true | ((conv_rhs => rw [← joinBytes_hiByte_loByte x]); rfl)

theorem rora : Statement (.rora) := by
  intro v rest _
  cases v <;> rfl

theorem rorb : Statement (.rorb) := by
  intro v rest _
  cases v <;> rfl

theorem ror (m : IndExt) : Statement (.ror m) := by
  intro v rest h
  rcases m with x | x <;> cases v <;>
    first | rfl | exact absurd h Bool.false_ne_true | ((conv_rhs => rw [← joinBytes_hiByte_loByte x]); rfl)

theorem asra : Statement (.asra) := by
  intro v rest _
  cases v <;> rfl

theorem asrb : Statement (.asrb) := by
  intro v rest _
  cases v <;> rfl

theorem asr (m : IndExt) : Statement (.asr m) := by
  intro v rest h
  rcases m with x | x <;> cases v <;>
    first | rfl | exact absurd h Bool.false_ne_true | ((conv_rhs => rw [← joinBytes_hiByte_loByte x]); rfl)

theorem asla : Statement (.asla) := by
  intro v rest _
  cases v <;> rfl

theorem aslb : Statement (.aslb) := by
  intro v rest _
  cases v <;> rfl

theorem asl (m : IndExt) : Statement (.asl m) := by
  intro v rest h
  rcases m with x | x <;> cases v <;>
    first | rfl | exact absurd h Bool.false_ne_true | ((conv_rhs => rw [← joinBytes_hiByte_loByte x]); rfl)

theorem rola : Statement (.rola) := by
  intro v rest _
  cases v <;> rfl

theorem rolb : Statement (.rolb) := by
  intro v rest _
  cases v <;> rfl

theorem rol (m : IndExt) : Statement (.rol m) := by
  intro v rest h
  rcases m with x | x <;> cases v <;>
    first | rfl | exact absurd h Bool.false_ne_true | ((conv_rhs => rw [← joinBytes_hiByte_loByte x]); rfl)

theorem deca : Statement (.deca) := by
  intro v rest _
  cases v <;> rfl

theorem decb : Statement (.decb) := by
  intro v rest _
  cases v <;> rfl

theorem dec (m : IndExt) : Statement (.dec m) := by
  intro v rest h
  rcases m with x | x <;> cases v <;>
    first | rfl | exact absurd h Bool.false_ne_true | ((conv_rhs => rw [← joinBytes_hiByte_loByte x]); rfl)

theorem inca : Statement (.inca) := by
  intro v rest _
  cases v <;> rfl

theorem incb : Statement (.incb) := by
  intro v rest _
  cases v <;> rfl

theorem inc (m : IndExt) : Statement (.inc m) := by
  intro v rest h
  rcases m with x | x <;> cases v <;>
    first | rfl | exact absurd h Bool.false_ne_true | ((conv_rhs => rw [← joinBytes_hiByte_loByte x]); rfl)

theorem tsta : Statement (.tsta) := by
  intro v rest _
  cases v <;> rfl

theorem tstb : Statement (.tstb) := by
  intro v rest _
  cases v <;> rfl

theorem tst (m : IndExt) : Statement (.tst m) := by
  intro v rest h
  rcases m with x | x <;> cases v <;>
    first | rfl | exact absurd h Bool.false_ne_true | ((conv_rhs => rw [← joinBytes_hiByte_loByte x]); rfl)

theorem clra : Statement (.clra) := by
  intro v rest _
  cases v <;> rfl

theorem clrb : Statement (.clrb) := by
  intro v rest _
  cases v <;> rfl

theorem clr (m : IndExt) : Statement (.clr m) := by
  intro v rest h
  rcases m with x | x <;> cases v <;>
    first | rfl | exact absurd h Bool.false_ne_true | ((conv_rhs => rw [← joinBytes_hiByte_loByte x]); rfl)

theorem asld : Statement (.asld) := by
  intro v rest h
  cases v <;>
    first | rfl | cases h

theorem lsrd : Statement (.lsrd) := by
  intro v rest h
  cases v <;>
    first | rfl | cases h

theorem bra (rel : Byte) : Statement (.bra rel) := by
  intro v rest _
  cases v <;> rfl

theorem brn (rel : Byte) : Statement (.brn rel) := by
  intro v rest h
  cases v <;>
    first | rfl | cases h

theorem bhi (rel : Byte) : Statement (.bhi rel) := by
  intro v rest _
  cases v <;> rfl

theorem bls (rel : Byte) : Statement (.bls rel) := by
  intro v rest _
  cases v <;> rfl

theorem bcc (rel : Byte) : Statement (.bcc rel) := by
  intro v rest _
  cases v <;> rfl

theorem bcs (rel : Byte) : Statement (.bcs rel) := by
  intro v rest _
  cases v <;> rfl

theorem bne (rel : Byte) : Statement (.bne rel) := by
  intro v rest _
  cases v <;> rfl

theorem beq (rel : Byte) : Statement (.beq rel) := by
  intro v rest _
  cases v <;> rfl

theorem bvc (rel : Byte) : Statement (.bvc rel) := by
  intro v rest _
  cases v <;> rfl

theorem bvs (rel : Byte) : Statement (.bvs rel) := by
  intro v rest _
  cases v <;> rfl

theorem bpl (rel : Byte) : Statement (.bpl rel) := by
  intro v rest _
  cases v <;> rfl

theorem bmi (rel : Byte) : Statement (.bmi rel) := by
  intro v rest _
  cases v <;> rfl

theorem bge (rel : Byte) : Statement (.bge rel) := by
  intro v rest _
  cases v <;> rfl

theorem blt (rel : Byte) : Statement (.blt rel) := by
  intro v rest _
  cases v <;> rfl

theorem bgt (rel : Byte) : Statement (.bgt rel) := by
  intro v rest _
  cases v <;> rfl

theorem ble (rel : Byte) : Statement (.ble rel) := by
  intro v rest _
  cases v <;> rfl

theorem bsr (rel : Byte) : Statement (.bsr rel) := by
  intro v rest _
  cases v <;> rfl

theorem jmp (m : IndExt) : Statement (.jmp m) := by
  intro v rest h
  rcases m with x | x <;> cases v <;>
    first | rfl | exact absurd h Bool.false_ne_true | ((conv_rhs => rw [← joinBytes_hiByte_loByte x]); rfl)

theorem jsr (m : MemOperand) : Statement (.jsr m) := by
  intro v rest h
  rcases m with x | x | x <;> cases v <;>
    first | rfl | exact absurd h Bool.false_ne_true | ((conv_rhs => rw [← joinBytes_hiByte_loByte x]); rfl)

theorem rts : Statement (.rts) := by
  intro v rest _
  cases v <;> rfl

theorem clc : Statement (.clc) := by
  intro v rest _
  cases v <;> rfl

theorem sec : Statement (.sec) := by
  intro v rest _
  cases v <;> rfl

theorem clv : Statement (.clv) := by
  intro v rest _
  cases v <;> rfl

theorem sev : Statement (.sev) := by
  intro v rest _
  cases v <;> rfl

theorem cli : Statement (.cli) := by
  intro v rest _
  cases v <;> rfl

theorem sei : Statement (.sei) := by
  intro v rest _
  cases v <;> rfl

theorem nop : Statement (.nop) := by
  intro v rest _
  cases v <;> rfl

theorem swi : Statement (.swi) := by
  intro v rest _
  cases v <;> rfl

theorem wai : Statement (.wai) := by
  intro v rest _
  cases v <;> rfl

theorem rti : Statement (.rti) := by
  intro v rest _
  cases v <;> rfl

theorem invalid (op : Byte) : Statement (.invalid op) := fun v rest h => decode_invalid v op rest (of_decide_eq_true h)

end Sys2Proof.Laws.DecodeEncode
end

