-- ==== Sys2Proof/Tests/Slice0.lean ====
section
/-! SUPPORT. Tests. Decoding: the opcode bits are those of spec/opcode_table.json's "encoding" column. Steps: the expected
results are the vectors of spec/95_test_vectors.md, whose ids stand in the comments, or the worked examples of the rules. -/

namespace Sys2Proof.Tests

open Sys2Proof.Machine
open Sys2Proof.Claims

/-! ## Helpers -/

/-- The bytes decode to exactly this instruction, with nothing left over. -/
def decodes (v : Variant) (p : List Byte × Instr) : Bool :=
  match decode v p.1 with
  | .ok (j, []) => decide (j = p.2)
  | _ => false

/-- Bytes stored from an address up. -/
def bytesAt (a : Word) : List Byte → Memory → Memory
  | [], m => m
  | b :: rest, m => (bytesAt (a + 1) rest m).write a b

/-- The start state of a vector: the reset state with PC = 0x0100, the CCR given and the code at 0x0100. -/
def start (v : Variant) (ccr : Byte) (code : List Byte) : State :=
  { State.reset with
    pc := 0x0100
    ccr := ccrOfByte ccr
    mem := bytesAt 0x0100 code []
    cfg := { Config.default with variant := v } }

/-- The state with bytes stored from an address up. -/
def put (a : Word) (l : List Byte) (s : State) : State := s.setMem (bytesAt a l s.mem)

/-- What one step shows of its next state. -/
def see {α : Type} (s : State) (f : State → α) : Option α :=
  match step s with
  | .next t => some (f t)
  | .fault _ => none
  | .refused _ => none

/-- A, CCR and PC. -/
def accA (t : State) : Byte × Byte × Word := (t.a, ccrByte t.ccr, t.pc)

/-- B, CCR and PC. -/
def accB (t : State) : Byte × Byte × Word := (t.b, ccrByte t.ccr, t.pc)

/-- D, CCR and PC. -/
def accD (t : State) : Word × Byte × Word := (t.d, ccrByte t.ccr, t.pc)

/-- IX, SP, CCR and PC. -/
def index (t : State) : Word × Word × Byte × Word := (t.ix, t.sp, ccrByte t.ccr, t.pc)

/-- The byte at an address, CCR and PC. -/
def cell (a : Word) (t : State) : Byte × Byte × Word := (t.mem.read a, ccrByte t.ccr, t.pc)

/-! ## WellFormed refuses ill-formed instructions -/

theorem test_wellFormed_m6803_only_on_m6800 : WellFormed .m6800 .mul = false := by decide
theorem test_wellFormed_m6803_only_on_m6803 : WellFormed .m6803 .mul = true := by decide
theorem test_wellFormed_jsr_dir_on_m6800 : WellFormed .m6800 (.jsr (.dir 0x50)) = false := by decide
theorem test_wellFormed_jsr_ind_on_m6800 : WellFormed .m6800 (.jsr (.ind 0x50)) = true := by decide
theorem test_wellFormed_invalid_of_a_valid_opcode : WellFormed .m6803 (.invalid 0x05) = false := by decide
theorem test_wellFormed_invalid_on_m6800 : WellFormed .m6800 (.invalid 0x05) = true := by decide

/-! ## Every row of the opcode table, by the high nibble of the opcode -/

theorem test_decode_row_0 : ([
    ([0b00000000], .invalid 0x00),
    ([0b00000001], .nop),
    ([0b00000010], .invalid 0x02),
    ([0b00000011], .invalid 0x03),
    ([0b00000100], .lsrd),
    ([0b00000101], .asld),
    ([0b00000110], .tap),
    ([0b00000111], .tpa),
    ([0b00001000], .inx),
    ([0b00001001], .dex),
    ([0b00001010], .clv),
    ([0b00001011], .sev),
    ([0b00001100], .clc),
    ([0b00001101], .sec),
    ([0b00001110], .cli),
    ([0b00001111], .sei)] : List (List Byte × Instr)).all (decodes .m6803) = true := by
  decide

theorem test_decode_row_1 : ([
    ([0b00010000], .sba),
    ([0b00010001], .cba),
    ([0b00010010], .invalid 0x12),
    ([0b00010011], .invalid 0x13),
    ([0b00010100], .invalid 0x14),
    ([0b00010101], .invalid 0x15),
    ([0b00010110], .tab),
    ([0b00010111], .tba),
    ([0b00011000], .invalid 0x18),
    ([0b00011001], .daa),
    ([0b00011010], .invalid 0x1A),
    ([0b00011011], .aba),
    ([0b00011100], .invalid 0x1C),
    ([0b00011101], .invalid 0x1D),
    ([0b00011110], .invalid 0x1E),
    ([0b00011111], .invalid 0x1F)] : List (List Byte × Instr)).all (decodes .m6803) = true := by
  decide

theorem test_decode_row_2 : ([
    ([0b00100000, 0x85], .bra 0x85),
    ([0b00100001, 0x85], .brn 0x85),
    ([0b00100010, 0x85], .bhi 0x85),
    ([0b00100011, 0x85], .bls 0x85),
    ([0b00100100, 0x85], .bcc 0x85),
    ([0b00100101, 0x85], .bcs 0x85),
    ([0b00100110, 0x85], .bne 0x85),
    ([0b00100111, 0x85], .beq 0x85),
    ([0b00101000, 0x85], .bvc 0x85),
    ([0b00101001, 0x85], .bvs 0x85),
    ([0b00101010, 0x85], .bpl 0x85),
    ([0b00101011, 0x85], .bmi 0x85),
    ([0b00101100, 0x85], .bge 0x85),
    ([0b00101101, 0x85], .blt 0x85),
    ([0b00101110, 0x85], .bgt 0x85),
    ([0b00101111, 0x85], .ble 0x85)] : List (List Byte × Instr)).all (decodes .m6803) = true := by
  decide

theorem test_decode_row_3 : ([
    ([0b00110000], .tsx),
    ([0b00110001], .ins),
    ([0b00110010], .pula),
    ([0b00110011], .pulb),
    ([0b00110100], .des),
    ([0b00110101], .txs),
    ([0b00110110], .psha),
    ([0b00110111], .pshb),
    ([0b00111000], .pulx),
    ([0b00111001], .rts),
    ([0b00111010], .abx),
    ([0b00111011], .rti),
    ([0b00111100], .pshx),
    ([0b00111101], .mul),
    ([0b00111110], .wai),
    ([0b00111111], .swi)] : List (List Byte × Instr)).all (decodes .m6803) = true := by
  decide

theorem test_decode_row_4 : ([
    ([0b01000000], .nega),
    ([0b01000001], .invalid 0x41),
    ([0b01000010], .invalid 0x42),
    ([0b01000011], .coma),
    ([0b01000100], .lsra),
    ([0b01000101], .invalid 0x45),
    ([0b01000110], .rora),
    ([0b01000111], .asra),
    ([0b01001000], .asla),
    ([0b01001001], .rola),
    ([0b01001010], .deca),
    ([0b01001011], .invalid 0x4B),
    ([0b01001100], .inca),
    ([0b01001101], .tsta),
    ([0b01001110], .invalid 0x4E),
    ([0b01001111], .clra)] : List (List Byte × Instr)).all (decodes .m6803) = true := by
  decide

theorem test_decode_row_5 : ([
    ([0b01010000], .negb),
    ([0b01010001], .invalid 0x51),
    ([0b01010010], .invalid 0x52),
    ([0b01010011], .comb),
    ([0b01010100], .lsrb),
    ([0b01010101], .invalid 0x55),
    ([0b01010110], .rorb),
    ([0b01010111], .asrb),
    ([0b01011000], .aslb),
    ([0b01011001], .rolb),
    ([0b01011010], .decb),
    ([0b01011011], .invalid 0x5B),
    ([0b01011100], .incb),
    ([0b01011101], .tstb),
    ([0b01011110], .invalid 0x5E),
    ([0b01011111], .clrb)] : List (List Byte × Instr)).all (decodes .m6803) = true := by
  decide

theorem test_decode_row_6 : ([
    ([0b01100000, 0xF1], .neg (.ind 0xF1)),
    ([0b01100001], .invalid 0x61),
    ([0b01100010], .invalid 0x62),
    ([0b01100011, 0xF1], .com (.ind 0xF1)),
    ([0b01100100, 0xF1], .lsr (.ind 0xF1)),
    ([0b01100101], .invalid 0x65),
    ([0b01100110, 0xF1], .ror (.ind 0xF1)),
    ([0b01100111, 0xF1], .asr (.ind 0xF1)),
    ([0b01101000, 0xF1], .asl (.ind 0xF1)),
    ([0b01101001, 0xF1], .rol (.ind 0xF1)),
    ([0b01101010, 0xF1], .dec (.ind 0xF1)),
    ([0b01101011], .invalid 0x6B),
    ([0b01101100, 0xF1], .inc (.ind 0xF1)),
    ([0b01101101, 0xF1], .tst (.ind 0xF1)),
    ([0b01101110, 0xF1], .jmp (.ind 0xF1)),
    ([0b01101111, 0xF1], .clr (.ind 0xF1))] : List (List Byte × Instr)).all (decodes .m6803) = true := by
  decide

theorem test_decode_row_7 : ([
    ([0b01110000, 0x34, 0xA6], .neg (.ext 0x34A6)),
    ([0b01110001], .invalid 0x71),
    ([0b01110010], .invalid 0x72),
    ([0b01110011, 0x34, 0xA6], .com (.ext 0x34A6)),
    ([0b01110100, 0x34, 0xA6], .lsr (.ext 0x34A6)),
    ([0b01110101], .invalid 0x75),
    ([0b01110110, 0x34, 0xA6], .ror (.ext 0x34A6)),
    ([0b01110111, 0x34, 0xA6], .asr (.ext 0x34A6)),
    ([0b01111000, 0x34, 0xA6], .asl (.ext 0x34A6)),
    ([0b01111001, 0x34, 0xA6], .rol (.ext 0x34A6)),
    ([0b01111010, 0x34, 0xA6], .dec (.ext 0x34A6)),
    ([0b01111011], .invalid 0x7B),
    ([0b01111100, 0x34, 0xA6], .inc (.ext 0x34A6)),
    ([0b01111101, 0x34, 0xA6], .tst (.ext 0x34A6)),
    ([0b01111110, 0x34, 0xA6], .jmp (.ext 0x34A6)),
    ([0b01111111, 0x34, 0xA6], .clr (.ext 0x34A6))] : List (List Byte × Instr)).all (decodes .m6803) = true := by
  decide

theorem test_decode_row_8 : ([
    ([0b10000000, 0x9A], .suba (.imm 0x9A)),
    ([0b10000001, 0x9A], .cmpa (.imm 0x9A)),
    ([0b10000010, 0x9A], .sbca (.imm 0x9A)),
    ([0b10000011, 0x12, 0x9A], .subd (.imm 0x129A)),
    ([0b10000100, 0x9A], .anda (.imm 0x9A)),
    ([0b10000101, 0x9A], .bita (.imm 0x9A)),
    ([0b10000110, 0x9A], .ldaa (.imm 0x9A)),
    ([0b10000111], .invalid 0x87),
    ([0b10001000, 0x9A], .eora (.imm 0x9A)),
    ([0b10001001, 0x9A], .adca (.imm 0x9A)),
    ([0b10001010, 0x9A], .oraa (.imm 0x9A)),
    ([0b10001011, 0x9A], .adda (.imm 0x9A)),
    ([0b10001100, 0x12, 0x9A], .cpx (.imm 0x129A)),
    ([0b10001101, 0x85], .bsr 0x85),
    ([0b10001110, 0x12, 0x9A], .lds (.imm 0x129A)),
    ([0b10001111], .invalid 0x8F)] : List (List Byte × Instr)).all (decodes .m6803) = true := by
  decide

theorem test_decode_row_9 : ([
    ([0b10010000, 0x8C], .suba (.mem (.dir 0x8C))),
    ([0b10010001, 0x8C], .cmpa (.mem (.dir 0x8C))),
    ([0b10010010, 0x8C], .sbca (.mem (.dir 0x8C))),
    ([0b10010011, 0x8C], .subd (.mem (.dir 0x8C))),
    ([0b10010100, 0x8C], .anda (.mem (.dir 0x8C))),
    ([0b10010101, 0x8C], .bita (.mem (.dir 0x8C))),
    ([0b10010110, 0x8C], .ldaa (.mem (.dir 0x8C))),
    ([0b10010111, 0x8C], .staa (.dir 0x8C)),
    ([0b10011000, 0x8C], .eora (.mem (.dir 0x8C))),
    ([0b10011001, 0x8C], .adca (.mem (.dir 0x8C))),
    ([0b10011010, 0x8C], .oraa (.mem (.dir 0x8C))),
    ([0b10011011, 0x8C], .adda (.mem (.dir 0x8C))),
    ([0b10011100, 0x8C], .cpx (.mem (.dir 0x8C))),
    ([0b10011101, 0x8C], .jsr (.dir 0x8C)),
    ([0b10011110, 0x8C], .lds (.mem (.dir 0x8C))),
    ([0b10011111, 0x8C], .sts (.dir 0x8C))] : List (List Byte × Instr)).all (decodes .m6803) = true := by
  decide

theorem test_decode_row_A : ([
    ([0b10100000, 0xF1], .suba (.mem (.ind 0xF1))),
    ([0b10100001, 0xF1], .cmpa (.mem (.ind 0xF1))),
    ([0b10100010, 0xF1], .sbca (.mem (.ind 0xF1))),
    ([0b10100011, 0xF1], .subd (.mem (.ind 0xF1))),
    ([0b10100100, 0xF1], .anda (.mem (.ind 0xF1))),
    ([0b10100101, 0xF1], .bita (.mem (.ind 0xF1))),
    ([0b10100110, 0xF1], .ldaa (.mem (.ind 0xF1))),
    ([0b10100111, 0xF1], .staa (.ind 0xF1)),
    ([0b10101000, 0xF1], .eora (.mem (.ind 0xF1))),
    ([0b10101001, 0xF1], .adca (.mem (.ind 0xF1))),
    ([0b10101010, 0xF1], .oraa (.mem (.ind 0xF1))),
    ([0b10101011, 0xF1], .adda (.mem (.ind 0xF1))),
    ([0b10101100, 0xF1], .cpx (.mem (.ind 0xF1))),
    ([0b10101101, 0xF1], .jsr (.ind 0xF1)),
    ([0b10101110, 0xF1], .lds (.mem (.ind 0xF1))),
    ([0b10101111, 0xF1], .sts (.ind 0xF1))] : List (List Byte × Instr)).all (decodes .m6803) = true := by
  decide

theorem test_decode_row_B : ([
    ([0b10110000, 0x34, 0xA6], .suba (.mem (.ext 0x34A6))),
    ([0b10110001, 0x34, 0xA6], .cmpa (.mem (.ext 0x34A6))),
    ([0b10110010, 0x34, 0xA6], .sbca (.mem (.ext 0x34A6))),
    ([0b10110011, 0x34, 0xA6], .subd (.mem (.ext 0x34A6))),
    ([0b10110100, 0x34, 0xA6], .anda (.mem (.ext 0x34A6))),
    ([0b10110101, 0x34, 0xA6], .bita (.mem (.ext 0x34A6))),
    ([0b10110110, 0x34, 0xA6], .ldaa (.mem (.ext 0x34A6))),
    ([0b10110111, 0x34, 0xA6], .staa (.ext 0x34A6)),
    ([0b10111000, 0x34, 0xA6], .eora (.mem (.ext 0x34A6))),
    ([0b10111001, 0x34, 0xA6], .adca (.mem (.ext 0x34A6))),
    ([0b10111010, 0x34, 0xA6], .oraa (.mem (.ext 0x34A6))),
    ([0b10111011, 0x34, 0xA6], .adda (.mem (.ext 0x34A6))),
    ([0b10111100, 0x34, 0xA6], .cpx (.mem (.ext 0x34A6))),
    ([0b10111101, 0x34, 0xA6], .jsr (.ext 0x34A6)),
    ([0b10111110, 0x34, 0xA6], .lds (.mem (.ext 0x34A6))),
    ([0b10111111, 0x34, 0xA6], .sts (.ext 0x34A6))] : List (List Byte × Instr)).all (decodes .m6803) = true := by
  decide

theorem test_decode_row_C : ([
    ([0b11000000, 0x9A], .subb (.imm 0x9A)),
    ([0b11000001, 0x9A], .cmpb (.imm 0x9A)),
    ([0b11000010, 0x9A], .sbcb (.imm 0x9A)),
    ([0b11000011, 0x12, 0x9A], .addd (.imm 0x129A)),
    ([0b11000100, 0x9A], .andb (.imm 0x9A)),
    ([0b11000101, 0x9A], .bitb (.imm 0x9A)),
    ([0b11000110, 0x9A], .ldab (.imm 0x9A)),
    ([0b11000111], .invalid 0xC7),
    ([0b11001000, 0x9A], .eorb (.imm 0x9A)),
    ([0b11001001, 0x9A], .adcb (.imm 0x9A)),
    ([0b11001010, 0x9A], .orab (.imm 0x9A)),
    ([0b11001011, 0x9A], .addb (.imm 0x9A)),
    ([0b11001100, 0x12, 0x9A], .ldd (.imm 0x129A)),
    ([0b11001101], .invalid 0xCD),
    ([0b11001110, 0x12, 0x9A], .ldx (.imm 0x129A)),
    ([0b11001111], .invalid 0xCF)] : List (List Byte × Instr)).all (decodes .m6803) = true := by
  decide

theorem test_decode_row_D : ([
    ([0b11010000, 0x8C], .subb (.mem (.dir 0x8C))),
    ([0b11010001, 0x8C], .cmpb (.mem (.dir 0x8C))),
    ([0b11010010, 0x8C], .sbcb (.mem (.dir 0x8C))),
    ([0b11010011, 0x8C], .addd (.mem (.dir 0x8C))),
    ([0b11010100, 0x8C], .andb (.mem (.dir 0x8C))),
    ([0b11010101, 0x8C], .bitb (.mem (.dir 0x8C))),
    ([0b11010110, 0x8C], .ldab (.mem (.dir 0x8C))),
    ([0b11010111, 0x8C], .stab (.dir 0x8C)),
    ([0b11011000, 0x8C], .eorb (.mem (.dir 0x8C))),
    ([0b11011001, 0x8C], .adcb (.mem (.dir 0x8C))),
    ([0b11011010, 0x8C], .orab (.mem (.dir 0x8C))),
    ([0b11011011, 0x8C], .addb (.mem (.dir 0x8C))),
    ([0b11011100, 0x8C], .ldd (.mem (.dir 0x8C))),
    ([0b11011101, 0x8C], .std (.dir 0x8C)),
    ([0b11011110, 0x8C], .ldx (.mem (.dir 0x8C))),
    ([0b11011111, 0x8C], .stx (.dir 0x8C))] : List (List Byte × Instr)).all (decodes .m6803) = true := by
  decide

theorem test_decode_row_E : ([
    ([0b11100000, 0xF1], .subb (.mem (.ind 0xF1))),
    ([0b11100001, 0xF1], .cmpb (.mem (.ind 0xF1))),
    ([0b11100010, 0xF1], .sbcb (.mem (.ind 0xF1))),
    ([0b11100011, 0xF1], .addd (.mem (.ind 0xF1))),
    ([0b11100100, 0xF1], .andb (.mem (.ind 0xF1))),
    ([0b11100101, 0xF1], .bitb (.mem (.ind 0xF1))),
    ([0b11100110, 0xF1], .ldab (.mem (.ind 0xF1))),
    ([0b11100111, 0xF1], .stab (.ind 0xF1)),
    ([0b11101000, 0xF1], .eorb (.mem (.ind 0xF1))),
    ([0b11101001, 0xF1], .adcb (.mem (.ind 0xF1))),
    ([0b11101010, 0xF1], .orab (.mem (.ind 0xF1))),
    ([0b11101011, 0xF1], .addb (.mem (.ind 0xF1))),
    ([0b11101100, 0xF1], .ldd (.mem (.ind 0xF1))),
    ([0b11101101, 0xF1], .std (.ind 0xF1)),
    ([0b11101110, 0xF1], .ldx (.mem (.ind 0xF1))),
    ([0b11101111, 0xF1], .stx (.ind 0xF1))] : List (List Byte × Instr)).all (decodes .m6803) = true := by
  decide

theorem test_decode_row_F : ([
    ([0b11110000, 0x34, 0xA6], .subb (.mem (.ext 0x34A6))),
    ([0b11110001, 0x34, 0xA6], .cmpb (.mem (.ext 0x34A6))),
    ([0b11110010, 0x34, 0xA6], .sbcb (.mem (.ext 0x34A6))),
    ([0b11110011, 0x34, 0xA6], .addd (.mem (.ext 0x34A6))),
    ([0b11110100, 0x34, 0xA6], .andb (.mem (.ext 0x34A6))),
    ([0b11110101, 0x34, 0xA6], .bitb (.mem (.ext 0x34A6))),
    ([0b11110110, 0x34, 0xA6], .ldab (.mem (.ext 0x34A6))),
    ([0b11110111, 0x34, 0xA6], .stab (.ext 0x34A6)),
    ([0b11111000, 0x34, 0xA6], .eorb (.mem (.ext 0x34A6))),
    ([0b11111001, 0x34, 0xA6], .adcb (.mem (.ext 0x34A6))),
    ([0b11111010, 0x34, 0xA6], .orab (.mem (.ext 0x34A6))),
    ([0b11111011, 0x34, 0xA6], .addb (.mem (.ext 0x34A6))),
    ([0b11111100, 0x34, 0xA6], .ldd (.mem (.ext 0x34A6))),
    ([0b11111101, 0x34, 0xA6], .std (.ext 0x34A6)),
    ([0b11111110, 0x34, 0xA6], .ldx (.mem (.ext 0x34A6))),
    ([0b11111111, 0x34, 0xA6], .stx (.ext 0x34A6))] : List (List Byte × Instr)).all (decodes .m6803) = true := by
  decide

/-- 30_encoding.md R115 and vectors T30-7, T44-6: on the M6800 these bytes are INVALID. -/
theorem test_decode_m6800_invalid : ([
    ([0b11001100], .invalid 0xCC), ([0b00100001], .invalid 0x21), ([0b10011101], .invalid 0x9D),
    ([0b00111101], .invalid 0x3D)] : List (List Byte × Instr)).all (decodes .m6800) = true := by
  decide

theorem test_decode_truncated : decode .m6800 [0x86] = .error (.truncated 0x86) := by rfl
theorem test_decode_noBytes : decode .m6800 [] = .error .noBytes := by rfl
theorem test_table_word_first_byte_is_low : decodeTableWord 24 0x3412CE = some (.ldx (.imm 0x1234)) := by decide
theorem test_table_word_m6803_row : decodeTableWord 16 0x50DD = some (.std (.dir 0x50)) := by decide
theorem test_table_word_invalid_row : decodeTableWord 8 0xDD = some (.invalid 0xDD) := by decide

/-! ## Steps -/

/-- T30-1 -/
theorem test_ldaa_ind_wraps : see ({ put 0x0001 [0x99] (start .m6800 0xC3 [0xA6, 0x02]) with x := 0xFFFF })
    (accA) = some (0x99, 0xC9, 0x0102) := by decide

/-- T30-2 -/
theorem test_ldx_ext_wraps : see (put 0xFFFF [0x12, 0x34] (start .m6800 0xD0 [0xFE, 0xFF, 0xFF]))
    (index) = some (0x1234, 0x00FF, 0xD0, 0x0103) := by decide

/-- T30-3 -/
theorem test_stx_ext_wraps : see ({ start .m6800 0xC1 [0xFF, 0xFF, 0xFF] with x := 0xABCD })
    (fun t => (t.mem.read 0xFFFF, t.mem.read 0x0000, ccrByte t.ccr, t.pc)) = some (0xAB, 0xCD, 0xC9, 0x0103) := by decide

/-- T30-4 -/
theorem test_sts_dir_crosses_page : see ({ start .m6800 0xD0 [0x9F, 0xFF] with sp := 0x1234 })
    (fun t => (t.mem.read 0x00FF, t.mem.read 0x0100, ccrByte t.ccr, t.pc)) = some (0x12, 0x34, 0xD0, 0x0102) := by decide

/-- T30-5 -/
theorem test_ldaa_dir : see (put 0x0080 [0x80] (start .m6800 0xD0 [0x96, 0x80]))
    (accA) = some (0x80, 0xD8, 0x0102) := by decide

/-- T30-6 -/
theorem test_fetch_wraps : see ({ put 0xFFFF [0x86, 0x42] (start .m6800 0xD0 []) with pc := 0xFFFF })
    (accA) = some (0x42, 0xD0, 0x0001) := by decide

/-- T30-7 -/
theorem test_ldd_imm : see (start .m6803 0xD0 [0xCC, 0x12, 0x34])
    (accD) = some (0x1234, 0xD0, 0x0103) := by decide

/-- T30-7 -/
theorem test_ldd_imm_invalid_on_m6800 : see (start .m6800 0xD0 [0xCC, 0x12, 0x34])
    (accD) = some (0x0000, 0xD0, 0x0101) := by decide

/-- T41-2 -/
theorem test_ldab_imm : see (start .m6800 0xC3 [0xC6, 0x80])
    (accB) = some (0x80, 0xC9, 0x0102) := by decide

/-- T41-3 -/
theorem test_stab_ind : see ({ start .m6800 0xC0 [0xE7, 0xFF] with x := 0x1000, b := 0x5A })
    (cell 0x10FF) = some (0x5A, 0xC0, 0x0102) := by decide

/-- T41-4 -/
theorem test_ldd_ext : see (put 0x2000 [0x80, 0x01] (start .m6803 0xC0 [0xFC, 0x20, 0x00]))
    (accD) = some (0x8001, 0xC8, 0x0103) := by decide

/-- T41-5 -/
theorem test_std_ind : see ({ start .m6803 0xC0 [0xED, 0x01] with x := 0x0300, a := 0x12, b := 0x34 })
    (fun t => (t.mem.read16 0x0301, ccrByte t.ccr, t.pc)) = some (0x1234, 0xC0, 0x0102) := by decide

/-- R202 -/
theorem test_staa_dir : see ({ start .m6800 0xD0 [0x97, 0x20] with a := 0x08 })
    (cell 0x0020) = some (0x08, 0xD0, 0x0102) := by decide

/-- R204 -/
theorem test_lds_imm : see (start .m6800 0xD0 [0x8E, 0x01, 0xFF])
    (index) = some (0x0000, 0x01FF, 0xD0, 0x0103) := by decide

/-- T41-6 -/
theorem test_tap : see ({ start .m6800 0xC0 [0x06] with a := 0xFF })
    (accA) = some (0xFF, 0xFF, 0x0101) := by decide

/-- T41-7 -/
theorem test_tap_keeps_high_bits : see ({ start .m6800 0xFF [0x06] with a := 0x00 })
    (accA) = some (0x00, 0xC0, 0x0101) := by decide

/-- T41-8 -/
theorem test_tpa : see (start .m6800 0xEA [0x07])
    (accA) = some (0xEA, 0xEA, 0x0101) := by decide

/-- T41-9 -/
theorem test_tsx : see ({ start .m6800 0xCF [0x30] with sp := 0xFFFF })
    (index) = some (0x0000, 0xFFFF, 0xCF, 0x0101) := by decide

/-- T41-10 -/
theorem test_txs : see (start .m6800 0xD0 [0x35])
    (index) = some (0x0000, 0xFFFF, 0xD0, 0x0101) := by decide

/-- T41-11 -/
theorem test_psha_wraps : see ({ start .m6800 0xD0 [0x36] with sp := 0x0000, a := 0x77 })
    (fun t => (t.mem.read 0x0000, t.sp)) = some (0x77, 0xFFFF) := by decide

/-- R217 -/
theorem test_pshb : see ({ start .m6800 0xD0 [0x37] with sp := 0x00FE, b := 0x07 })
    (fun t => (t.mem.read 0x00FE, t.sp)) = some (0x07, 0x00FD) := by decide

/-- T41-12 -/
theorem test_pula_wraps : see ({ put 0x0000 [0x66] (start .m6800 0xD0 [0x32]) with sp := 0xFFFF })
    (fun t => (t.a, t.sp)) = some (0x66, 0x0000) := by decide

/-- R219 -/
theorem test_pulb : see ({ put 0x00FE [0x07] (start .m6800 0xD0 [0x33]) with sp := 0x00FD })
    (fun t => (t.b, t.sp)) = some (0x07, 0x00FE) := by decide

/-- T41-13 -/
theorem test_pshx : see ({ start .m6803 0xD0 [0x3C] with sp := 0x0000, x := 0xBEEF })
    (fun t => (t.mem.read 0x0000, t.mem.read 0xFFFF, t.sp)) = some (0xEF, 0xBE, 0xFFFE) := by decide

/-- T41-14 -/
theorem test_pulx : see ({ put 0xFFFF [0xCA, 0xFE] (start .m6803 0xD0 [0x38]) with sp := 0xFFFE })
    (index) = some (0xCAFE, 0x0000, 0xD0, 0x0101) := by decide

/-- T41-16 -/
theorem test_tab : see ({ start .m6800 0xC2 [0x16] with a := 0x80 })
    (accB) = some (0x80, 0xC8, 0x0101) := by decide

/-- R211 -/
theorem test_tba : see ({ start .m6800 0xC0 [0x17] with a := 0x55, b := 0x00 })
    (accA) = some (0x00, 0xC4, 0x0101) := by decide

/-- T42-1 -/
theorem test_adda_overflow : see ({ start .m6800 0xC0 [0x8B, 0x01] with a := 0x7F })
    (accA) = some (0x80, 0xEA, 0x0102) := by decide

/-- T42-3 -/
theorem test_adda_carry : see ({ start .m6800 0xC0 [0x8B, 0x80] with a := 0x80 })
    (accA) = some (0x00, 0xC7, 0x0102) := by decide

/-- R241 -/
theorem test_addb_half_carry : see ({ start .m6800 0xC0 [0xCB, 0x01] with b := 0x0F })
    (accB) = some (0x10, 0xE0, 0x0102) := by decide

/-- T42-5 -/
theorem test_adca : see ({ start .m6800 0xC1 [0x89, 0x00] with a := 0xFF })
    (accA) = some (0x00, 0xE5, 0x0102) := by decide

/-- R243 -/
theorem test_adcb : see ({ start .m6800 0xC1 [0xC9, 0xFF] with b := 0xFF })
    (accB) = some (0xFF, 0xE9, 0x0102) := by decide

/-- T42-6 -/
theorem test_suba_overflow : see ({ start .m6800 0xE0 [0x80, 0x01] with a := 0x80 })
    (accA) = some (0x7F, 0xE2, 0x0102) := by decide

/-- T42-7 -/
theorem test_suba_borrow : see ({ start .m6800 0xC0 [0x80, 0x80] with a := 0x00 })
    (accA) = some (0x80, 0xCB, 0x0102) := by decide

/-- R245 -/
theorem test_subb : see ({ start .m6800 0xC0 [0xC0, 0x01] with b := 0x00 })
    (accB) = some (0xFF, 0xC9, 0x0102) := by decide

/-- T42-9 -/
theorem test_sbca : see ({ start .m6800 0xC1 [0x82, 0x00] with a := 0x00 })
    (accA) = some (0xFF, 0xC9, 0x0102) := by decide

/-- R247 -/
theorem test_sbcb : see ({ start .m6800 0xC0 [0xC2, 0x01] with b := 0x80 })
    (accB) = some (0x7F, 0xC2, 0x0102) := by decide

/-- T42-10 -/
theorem test_cmpa : see ({ start .m6800 0xCF [0x81, 0x05] with a := 0x05 })
    (accA) = some (0x05, 0xC4, 0x0102) := by decide

/-- R249 -/
theorem test_cmpb : see ({ start .m6800 0xCF [0xC1, 0x30] with b := 0x30 })
    (accB) = some (0x30, 0xC4, 0x0102) := by decide

/-- T42-11 -/
theorem test_anda : see ({ start .m6800 0xC3 [0x84, 0x0F] with a := 0xF0 })
    (accA) = some (0x00, 0xC5, 0x0102) := by decide

/-- R251 -/
theorem test_andb : see ({ start .m6800 0xC0 [0xC4, 0x80] with b := 0x81 })
    (accB) = some (0x80, 0xC8, 0x0102) := by decide

/-- T42-12 -/
theorem test_bita : see ({ start .m6800 0xC0 [0x85, 0xF0] with a := 0x0F })
    (accA) = some (0x0F, 0xC4, 0x0102) := by decide

/-- R253 -/
theorem test_bitb : see ({ start .m6800 0xC2 [0xC5, 0x80] with b := 0x80 })
    (accB) = some (0x80, 0xC8, 0x0102) := by decide

/-- R254 -/
theorem test_eora : see ({ start .m6800 0xC0 [0x88, 0x0F] with a := 0xFF })
    (accA) = some (0xF0, 0xC8, 0x0102) := by decide

/-- R255 -/
theorem test_eorb : see ({ start .m6800 0xC0 [0xC8, 0x55] with b := 0x55 })
    (accB) = some (0x00, 0xC4, 0x0102) := by decide

/-- R256 -/
theorem test_oraa : see ({ start .m6800 0xC0 [0x8A, 0x80] with a := 0x01 })
    (accA) = some (0x81, 0xC8, 0x0102) := by decide

/-- R257 -/
theorem test_orab : see ({ start .m6800 0xC0 [0xCA, 0x00] with b := 0x00 })
    (accB) = some (0x00, 0xC4, 0x0102) := by decide

/-- T42-13 -/
theorem test_sba : see ({ start .m6800 0xC0 [0x10] with a := 0x05, b := 0x05 })
    (accA) = some (0x00, 0xC4, 0x0101) := by decide

/-- T42-14 -/
theorem test_cba : see ({ start .m6800 0xC0 [0x11] with a := 0x80, b := 0x01 })
    (accA) = some (0x80, 0xC2, 0x0101) := by decide

/-- T42-15 -/
theorem test_aba : see ({ start .m6800 0xC0 [0x1B] with a := 0x40, b := 0x40 })
    (accA) = some (0x80, 0xCA, 0x0101) := by decide

/-- T42-16 -/
theorem test_addd_overflow : see ({ start .m6803 0xE0 [0xC3, 0x00, 0x01] with a := 0x7F, b := 0xFF })
    (accD) = some (0x8000, 0xEA, 0x0103) := by decide

/-- T42-17 -/
theorem test_addd_carry : see ({ start .m6803 0xC0 [0xC3, 0x00, 0x01] with a := 0xFF, b := 0xFF })
    (accD) = some (0x0000, 0xC5, 0x0103) := by decide

/-- T42-19 -/
theorem test_subd_overflow : see ({ start .m6803 0xC0 [0x83, 0x00, 0x01] with a := 0x80, b := 0x00 })
    (accD) = some (0x7FFF, 0xC2, 0x0103) := by decide

/-- T42-20 -/
theorem test_subd_borrow : see (start .m6803 0xC0 [0x83, 0x00, 0x01])
    (accD) = some (0xFFFF, 0xC9, 0x0103) := by decide

/-- T42-21 -/
theorem test_cpx_m6800 : see ({ start .m6800 0xC1 [0x8C, 0x00, 0x01] with x := 0x8000 })
    (index) = some (0x8000, 0x00FF, 0xC9, 0x0103) := by decide

/-- T42-22 -/
theorem test_cpx_m6803 : see ({ start .m6803 0xC1 [0x8C, 0x00, 0x01] with x := 0x8000 })
    (index) = some (0x8000, 0x00FF, 0xC2, 0x0103) := by decide

/-- T42-26 -/
theorem test_mul : see ({ start .m6803 0xC1 [0x3D] with a := 0xFF, b := 0xFF })
    (accD) = some (0xFE01, 0xC0, 0x0101) := by decide

/-- T42-27 -/
theorem test_mul_carry_is_bit_7 : see ({ start .m6803 0xC4 [0x3D] with a := 0x10, b := 0x08 })
    (accD) = some (0x0080, 0xC5, 0x0101) := by decide

/-- T42-29 -/
theorem test_inx : see ({ start .m6800 0xC0 [0x08] with x := 0xFFFF })
    (index) = some (0x0000, 0x00FF, 0xC4, 0x0101) := by decide

/-- T42-30 -/
theorem test_dex : see (start .m6800 0xC4 [0x09])
    (index) = some (0xFFFF, 0x00FF, 0xC0, 0x0101) := by decide

/-- T42-31 -/
theorem test_ins : see ({ start .m6800 0xC0 [0x31] with sp := 0xFFFF })
    (index) = some (0x0000, 0x0000, 0xC0, 0x0101) := by decide

/-- T42-32 -/
theorem test_des : see ({ start .m6800 0xC0 [0x34] with sp := 0x0000 })
    (index) = some (0x0000, 0xFFFF, 0xC0, 0x0101) := by decide

/-- T42-33 -/
theorem test_abx : see ({ start .m6803 0xCF [0x3A] with x := 0xFFFF, b := 0x01 })
    (index) = some (0x0000, 0x00FF, 0xCF, 0x0101) := by decide

/-- T43-1 -/
theorem test_nega : see ({ start .m6800 0xC0 [0x40] with a := 0x80 })
    (accA) = some (0x80, 0xCB, 0x0101) := by decide

/-- T43-1 on B -/
theorem test_negb : see ({ start .m6800 0xC0 [0x50] with b := 0x80 })
    (accB) = some (0x80, 0xCB, 0x0101) := by decide

/-- T43-3 -/
theorem test_coma : see ({ start .m6800 0xC0 [0x43] with a := 0xFF })
    (accA) = some (0x00, 0xC5, 0x0101) := by decide

/-- T43-3 on B -/
theorem test_comb : see ({ start .m6800 0xC0 [0x53] with b := 0xFF })
    (accB) = some (0x00, 0xC5, 0x0101) := by decide

/-- T43-4 -/
theorem test_lsra : see ({ start .m6800 0xC8 [0x44] with a := 0x01 })
    (accA) = some (0x00, 0xC7, 0x0101) := by decide

/-- T43-4 on B -/
theorem test_lsrb : see ({ start .m6800 0xC8 [0x54] with b := 0x01 })
    (accB) = some (0x00, 0xC7, 0x0101) := by decide

/-- T43-5 -/
theorem test_rora : see ({ start .m6800 0xC1 [0x46] with a := 0x01 })
    (accA) = some (0x80, 0xC9, 0x0101) := by decide

/-- T43-5 on B -/
theorem test_rorb : see ({ start .m6800 0xC1 [0x56] with b := 0x01 })
    (accB) = some (0x80, 0xC9, 0x0101) := by decide

/-- T43-8 -/
theorem test_asra : see ({ start .m6800 0xC0 [0x47] with a := 0x80 })
    (accA) = some (0xC0, 0xCA, 0x0101) := by decide

/-- T43-8 on B -/
theorem test_asrb : see ({ start .m6800 0xC0 [0x57] with b := 0x80 })
    (accB) = some (0xC0, 0xCA, 0x0101) := by decide

/-- T43-11 -/
theorem test_asla : see ({ start .m6800 0xC0 [0x48] with a := 0xC0 })
    (accA) = some (0x80, 0xC9, 0x0101) := by decide

/-- T43-11 on B -/
theorem test_aslb : see ({ start .m6800 0xC0 [0x58] with b := 0xC0 })
    (accB) = some (0x80, 0xC9, 0x0101) := by decide

/-- T43-12 -/
theorem test_rola : see ({ start .m6800 0xC0 [0x49] with a := 0x80 })
    (accA) = some (0x00, 0xC7, 0x0101) := by decide

/-- T43-12 on B -/
theorem test_rolb : see ({ start .m6800 0xC0 [0x59] with b := 0x80 })
    (accB) = some (0x00, 0xC7, 0x0101) := by decide

/-- T43-13 -/
theorem test_deca : see ({ start .m6800 0xC1 [0x4A] with a := 0x80 })
    (accA) = some (0x7F, 0xC3, 0x0101) := by decide

/-- T43-13 on B -/
theorem test_decb : see ({ start .m6800 0xC1 [0x5A] with b := 0x80 })
    (accB) = some (0x7F, 0xC3, 0x0101) := by decide

/-- T43-15 -/
theorem test_inca : see ({ start .m6800 0xC1 [0x4C] with a := 0x7F })
    (accA) = some (0x80, 0xCB, 0x0101) := by decide

/-- T43-15 on B -/
theorem test_incb : see ({ start .m6800 0xC1 [0x5C] with b := 0x7F })
    (accB) = some (0x80, 0xCB, 0x0101) := by decide

/-- T43-17 -/
theorem test_tsta : see ({ start .m6800 0xC3 [0x4D] with a := 0x00 })
    (accA) = some (0x00, 0xC4, 0x0101) := by decide

/-- T43-17 on B -/
theorem test_tstb : see ({ start .m6800 0xC3 [0x5D] with b := 0x00 })
    (accB) = some (0x00, 0xC4, 0x0101) := by decide

/-- T43-18 -/
theorem test_clra : see ({ start .m6800 0xCB [0x4F] with a := 0x80 })
    (accA) = some (0x00, 0xC4, 0x0101) := by decide

/-- T43-18 on B -/
theorem test_clrb : see ({ start .m6800 0xCB [0x5F] with b := 0x80 })
    (accB) = some (0x00, 0xC4, 0x0101) := by decide

/-- T43-19 -/
theorem test_neg_ext_at_top : see (put 0xFFFF [0x01] (start .m6800 0xC0 [0x70, 0xFF, 0xFF]))
    (cell 0xFFFF) = some (0xFF, 0xC9, 0x0103) := by decide

/-- R306 -/
theorem test_com_ind : see ({ put 0x0105 [0x0F] (start .m6800 0xC0 [0x63, 0x05]) with x := 0x0100 })
    (cell 0x0105) = some (0xF0, 0xC9, 0x0102) := by decide

/-- R309 -/
theorem test_lsr_ind : see ({ put 0x0105 [0x81] (start .m6800 0xC0 [0x64, 0x05]) with x := 0x0100 })
    (cell 0x0105) = some (0x40, 0xC3, 0x0102) := by decide

/-- R312 -/
theorem test_ror_ind : see ({ put 0x0105 [0x02] (start .m6800 0xC0 [0x66, 0x05]) with x := 0x0100 })
    (cell 0x0105) = some (0x01, 0xC0, 0x0102) := by decide

/-- R315 -/
theorem test_asr_ind : see ({ put 0x0105 [0x85] (start .m6800 0xC0 [0x67, 0x05]) with x := 0x0100 })
    (cell 0x0105) = some (0xC2, 0xC9, 0x0102) := by decide

/-- R318 -/
theorem test_asl_ind : see ({ put 0x0105 [0x21] (start .m6800 0xC0 [0x68, 0x05]) with x := 0x0100 })
    (cell 0x0105) = some (0x42, 0xC0, 0x0102) := by decide

/-- R321 -/
theorem test_rol_ind : see ({ put 0x0105 [0x81] (start .m6800 0xC1 [0x69, 0x05]) with x := 0x0100 })
    (cell 0x0105) = some (0x03, 0xC3, 0x0102) := by decide

/-- R324 -/
theorem test_dec_ind : see ({ put 0x0105 [0x10] (start .m6800 0xC1 [0x6A, 0x05]) with x := 0x0100 })
    (cell 0x0105) = some (0x0F, 0xC1, 0x0102) := by decide

/-- T43-20 -/
theorem test_inc_ind_wraps : see ({ put 0x0010 [0x7F] (start .m6800 0xC0 [0x6C, 0x20]) with x := 0xFFF0 })
    (cell 0x0010) = some (0x80, 0xCA, 0x0102) := by decide

/-- T43-21 -/
theorem test_tst_ind : see ({ start .m6800 0xC3 [0x6D, 0x00] with x := 0x0200 })
    (cell 0x0200) = some (0x00, 0xC4, 0x0102) := by decide

/-- T43-22 -/
theorem test_clr_ind : see ({ put 0x0105 [0x5A] (start .m6800 0xCB [0x6F, 0x05]) with x := 0x0100 })
    (cell 0x0105) = some (0x00, 0xC4, 0x0102) := by decide

/-- T43-24 -/
theorem test_asld : see ({ start .m6803 0xC0 [0x05] with a := 0x40, b := 0x00 })
    (accD) = some (0x8000, 0xCA, 0x0101) := by decide

/-- T43-26 -/
theorem test_lsrd : see ({ start .m6803 0xC0 [0x04] with a := 0xFF, b := 0xFF })
    (accD) = some (0x7FFF, 0xC3, 0x0101) := by decide

/-- T44-1 -/
theorem test_bra : see (start .m6800 0xD0 [0x20, 0x7D])
    (State.pc) = some 0x017F := by decide

/-- T44-2 -/
theorem test_bra_backward : see (start .m6800 0xD0 [0x20, 0x80])
    (State.pc) = some 0x0082 := by decide

/-- T44-4 -/
theorem test_bra_self : see (start .m6800 0xD0 [0x20, 0xFE])
    (State.pc) = some 0x0100 := by decide

/-- T44-6 -/
theorem test_brn : see (start .m6803 0xC0 [0x21, 0x10])
    (State.pc) = some 0x0102 := by decide

/-- R343 -/
theorem test_bhi_taken : see (start .m6800 0xC0 [0x22, 0x04])
    (State.pc) = some 0x0106 := by decide

/-- R343 -/
theorem test_bhi_not_taken : see (start .m6800 0xC1 [0x22, 0x04])
    (State.pc) = some 0x0102 := by decide

/-- R344 -/
theorem test_bls_taken : see (start .m6800 0xC4 [0x23, 0x04])
    (State.pc) = some 0x0106 := by decide

/-- R344 -/
theorem test_bls_not_taken : see (start .m6800 0xC0 [0x23, 0x04])
    (State.pc) = some 0x0102 := by decide

/-- R345 -/
theorem test_bcc_taken : see (start .m6800 0xC0 [0x24, 0x04])
    (State.pc) = some 0x0106 := by decide

/-- R345 -/
theorem test_bcc_not_taken : see (start .m6800 0xC1 [0x24, 0x04])
    (State.pc) = some 0x0102 := by decide

/-- R346 -/
theorem test_bcs_taken : see (start .m6800 0xC1 [0x25, 0x04])
    (State.pc) = some 0x0106 := by decide

/-- R346 -/
theorem test_bcs_not_taken : see (start .m6800 0xC0 [0x25, 0x04])
    (State.pc) = some 0x0102 := by decide

/-- R347 -/
theorem test_bne_taken : see (start .m6800 0xC0 [0x26, 0x04])
    (State.pc) = some 0x0106 := by decide

/-- R347 -/
theorem test_bne_not_taken : see (start .m6800 0xC4 [0x26, 0x04])
    (State.pc) = some 0x0102 := by decide

/-- R348 -/
theorem test_beq_taken : see (start .m6800 0xC4 [0x27, 0x04])
    (State.pc) = some 0x0106 := by decide

/-- R348 -/
theorem test_beq_not_taken : see (start .m6800 0xC0 [0x27, 0x04])
    (State.pc) = some 0x0102 := by decide

/-- R349 -/
theorem test_bvc_taken : see (start .m6800 0xC0 [0x28, 0x04])
    (State.pc) = some 0x0106 := by decide

/-- R349 -/
theorem test_bvc_not_taken : see (start .m6800 0xC2 [0x28, 0x04])
    (State.pc) = some 0x0102 := by decide

/-- R350 -/
theorem test_bvs_taken : see (start .m6800 0xC2 [0x29, 0x04])
    (State.pc) = some 0x0106 := by decide

/-- R350 -/
theorem test_bvs_not_taken : see (start .m6800 0xC0 [0x29, 0x04])
    (State.pc) = some 0x0102 := by decide

/-- R351 -/
theorem test_bpl_taken : see (start .m6800 0xC0 [0x2A, 0x04])
    (State.pc) = some 0x0106 := by decide

/-- R351 -/
theorem test_bpl_not_taken : see (start .m6800 0xC8 [0x2A, 0x04])
    (State.pc) = some 0x0102 := by decide

/-- R352 -/
theorem test_bmi_taken : see (start .m6800 0xC8 [0x2B, 0x04])
    (State.pc) = some 0x0106 := by decide

/-- R352 -/
theorem test_bmi_not_taken : see (start .m6800 0xC0 [0x2B, 0x04])
    (State.pc) = some 0x0102 := by decide

/-- R353 -/
theorem test_bge_taken : see (start .m6800 0xCA [0x2C, 0x04])
    (State.pc) = some 0x0106 := by decide

/-- R353 -/
theorem test_bge_not_taken : see (start .m6800 0xC8 [0x2C, 0x04])
    (State.pc) = some 0x0102 := by decide

/-- R354 -/
theorem test_blt_taken : see (start .m6800 0xC2 [0x2D, 0x04])
    (State.pc) = some 0x0106 := by decide

/-- R354 -/
theorem test_blt_not_taken : see (start .m6800 0xC0 [0x2D, 0x04])
    (State.pc) = some 0x0102 := by decide

/-- R355 -/
theorem test_bgt_taken : see (start .m6800 0xC0 [0x2E, 0x04])
    (State.pc) = some 0x0106 := by decide

/-- R355 -/
theorem test_bgt_not_taken : see (start .m6800 0xC4 [0x2E, 0x04])
    (State.pc) = some 0x0102 := by decide

/-- R356 -/
theorem test_ble_taken : see (start .m6800 0xC4 [0x2F, 0x04])
    (State.pc) = some 0x0106 := by decide

/-- R356 -/
theorem test_ble_not_taken : see (start .m6800 0xC0 [0x2F, 0x04])
    (State.pc) = some 0x0102 := by decide

/-- T44-10 -/
theorem test_bsr : see ({ start .m6800 0xD0 [0x8D, 0xF0] with sp := 0x0001 })
    (fun t => (t.mem.read 0x0001, t.mem.read 0x0000, t.sp, t.pc)) = some (0x02, 0x01, 0xFFFF, 0x00F2) := by decide

/-- T44-11 -/
theorem test_jsr_ind : see ({ start .m6800 0xD0 [0xAD, 0x05] with x := 0x3000 })
    (fun t => (t.mem.read16 0x00FE, t.sp, t.pc)) = some (0x0102, 0x00FD, 0x3005) := by decide

/-- T44-12 -/
theorem test_jsr_dir : see (start .m6803 0xD0 [0x9D, 0x50])
    (fun t => (t.mem.read16 0x00FE, t.sp, t.pc)) = some (0x0102, 0x00FD, 0x0050) := by decide

/-- T44-14 -/
theorem test_rts : see ({ put 0x0000 [0x12, 0x34] (start .m6800 0xD0 [0x39]) with sp := 0xFFFF })
    (fun t => (t.pc, t.sp)) = some (0x1234, 0x0001) := by decide

/-- T44-15 -/
theorem test_jmp_ind : see ({ start .m6800 0xD0 [0x6E, 0x02] with x := 0xFFFF })
    (State.pc) = some 0x0001 := by decide

/-- T45-1 -/
theorem test_clc : see (start .m6800 0xD1 [0x0C])
    (fun t => (ccrByte t.ccr, t.pc)) = some (0xD0, 0x0101) := by decide

/-- T45-2 -/
theorem test_sec : see (start .m6800 0xC0 [0x0D])
    (fun t => (ccrByte t.ccr, t.pc)) = some (0xC1, 0x0101) := by decide

/-- T45-3 -/
theorem test_clv : see (start .m6800 0xC2 [0x0A])
    (fun t => (ccrByte t.ccr, t.pc)) = some (0xC0, 0x0101) := by decide

/-- T45-4 -/
theorem test_sev : see (start .m6800 0xC0 [0x0B])
    (fun t => (ccrByte t.ccr, t.pc)) = some (0xC2, 0x0101) := by decide

/-- T45-5 -/
theorem test_cli : see (start .m6800 0xD1 [0x0E])
    (fun t => (ccrByte t.ccr, t.pc)) = some (0xC1, 0x0101) := by decide

/-- T45-6 -/
theorem test_sei : see (start .m6800 0xC1 [0x0F])
    (fun t => (ccrByte t.ccr, t.pc)) = some (0xD1, 0x0101) := by decide

/-- T45-7 -/
theorem test_nop : see (start .m6800 0xD0 [0x01])
    (fun t => (ccrByte t.ccr, t.pc)) = some (0xD0, 0x0101) := by decide

/-- T45-8 -/
theorem test_swi_frame : see ({ put 0xFFFA [0x20, 0x00] (start .m6800 0xC0 [0x3F]) with a := 0x11, b := 0x22, x := 0x3344 })
    (fun t => (t.mem, t.sp, ccrByte t.ccr, t.pc)) = some 
    ([(0xF9, 0xC0), (0xFA, 0x22), (0xFB, 0x11), (0xFC, 0x33), (0xFD, 0x44), (0xFE, 0x01), (0xFF, 0x01), (0x0100, 0x3F),
      (0xFFFA, 0x20)], 0x00F8, 0xD0, 0x2000) := by decide

/-- T45-10 -/
theorem test_swi_frame_wraps : see ({ put 0xFFFA [0x40, 0x00] (start .m6800 0xFF [0x3F]) with sp := 0x0003, a := 0x01, b := 0x02, x := 0x0304 })
    (fun t => (t.mem, t.sp, t.pc)) = some 
    ([(0, 0x03), (1, 0x04), (2, 0x01), (3, 0x01), (0x0100, 0x3F), (0xFFFA, 0x40), (0xFFFD, 0xFF), (0xFFFE, 0x02),
      (0xFFFF, 0x01)], 0xFFFC, 0x4000) := by decide

/-- T45-11 -/
theorem test_rti : see ({ put 0x00F9 [0x05, 0xBB, 0xAA, 0x11, 0x22, 0x33, 0x44] (start .m6800 0xD0 [0x3B]) with sp := 0x00F8 })
    (fun t => (ccrByte t.ccr, t.a, t.b, t.ix, t.pc, t.sp)) = some (0xC5, 0xAA, 0xBB, 0x1122, 0x3344, 0x00FF) := by decide

/-- T45-12 -/
theorem test_wai : see (start .m6800 0xD0 [0x3E])
    (fun t => (t.mem.read16 0x00FE, t.sp, t.pc, t.wai)) = some (0x0101, 0x00F8, 0x0101, true) := by decide

/-- T45-13 -/
theorem test_invalid_skipped : see ({ start .m6800 0xCF [0x87] with a := 0x01 })
    (accA) = some (0x01, 0xCF, 0x0101) := by decide

/-- T45-14 -/
theorem test_invalid_halts : step { start .m6800 0xCF [0x87] with cfg := { Config.default with incOnMissing := false } } =
    .fault (.halt 0x0100 0x87) := by rfl

/-- One row of the DAA vectors: A, C, N and Z after, from A, H and C before (V is a draw). -/
def daaRow (a : Byte) (h c : Bool) : Option (Byte × Bool × Bool × Bool) :=
  see { start .m6800 0xC0 [0x19] with a := a, ccr := { ccrOfByte 0xC0 with h := h, c := c } } (fun t => (t.a, t.ccr.c, t.ccr.n, t.ccr.z))

/-- T42-34 to T42-38 -/
theorem test_daa_carry_clear : [daaRow 0x45 false false, daaRow 0x0C false false, daaRow 0x12 true false, daaRow 0xA5 false false, daaRow 0x9C false false] =
    [some (0x45, false, false, false), some (0x12, false, false, false), some (0x18, false, false, false), some (0x05, true, false, false), some (0x02, true, false, false)] := by decide

/-- T42-39 to T42-44 -/
theorem test_daa_carry_and_half_carry : [daaRow 0xB2 true false, daaRow 0x25 false true, daaRow 0x1B false true, daaRow 0x32 true true, daaRow 0x4A true false, daaRow 0x9A false false] =
    [some (0x18, true, false, false), some (0x85, true, true, false), some (0x81, true, true, false), some (0x98, true, true, false), some (0x50, false, false, false), some (0x00, true, false, true)] := by decide

/-! ## Interrupts and ticks -/

/-- T60-1: a masked IRQ is dropped and one instruction executes. -/
theorem test_irq_masked : see (raiseRequest .irq (start .m6800 0xD0 [0x0E])) (fun t => (t.pending, t.pc, ccrByte t.ccr, t.sp)) =
    some (.none, 0x0101, 0xC0, 0x00FF) := by decide

/-- T60-1: an unmasked IRQ is serviced. -/
theorem test_irq_serviced : see (raiseRequest .irq (put 0xFFF8 [0x00, 0x40] (start .m6800 0xC0 [])))
    (fun t => (t.mem.read 0x00F9, t.mem.read16 0x00FE, t.sp, ccrByte t.ccr, t.pc, t.pending)) =
    some (0xC0, 0x0100, 0x00F8, 0xD0, 0x0040, .none) := by decide

/-- T60-2: the first request is latched. -/
theorem test_first_request_latched : (raiseRequest .rst (raiseRequest .nmi State.reset)).pending = .request .nmi := by decide

/-- T60-3: NMI is not masked. -/
theorem test_nmi_not_masked : see (raiseRequest .nmi (put 0xFFFC [0x12, 0x34] (start .m6800 0xD0 []))) (fun t => (t.pc, t.sp)) =
    some (0x1234, 0x00F8) := by decide

/-- T60-5: a service state in IPS is fatal. -/
theorem test_service_in_ips_is_fatal : hostStep { start .m6800 0xD0 [] with pending := .service .nmi } = .fault .serviceStateInIPS := by
  rfl

/-- P3, step 7: a parked core is serviced with no push. -/
theorem test_parked_service_pushes_nothing : see { put 0xFFFC [0x00, 0x20] (start .m6800 0xD0 []) with
    pending := .request .nmi, wai := true, sp := 0x00F8 } (fun t => (t.pc, t.sp, t.wai, t.mem.read 0x00F8)) =
    some (0x0020, 0x00F8, false, 0x00) := by decide

/-- T60-4, tick 1: CLI occupies two cycles. -/
theorem test_cps_dispatch : see { start .m6800 0xD0 [0x0E] with cfg := { Config.default with cycleMode := true } }
    (fun t => (t.cycle, t.curCycles, t.pc)) = some (0, 2, 0x0101) := by decide

/-- T60-4, tick 2: the second cycle changes only `cycle`. -/
theorem test_cps_waits : see { start .m6800 0xD0 [0x0E] with curCycles := 2, cfg := { Config.default with cycleMode := true } }
    (fun t => (t.cycle, t.curCycles, t.pc)) = some (1, 2, 0x0100) := by decide

/-- T60-4, tick 5, for every value of `INT_ENTRY_CYCLES`: the request runs one instruction and the count is elevated. -/
theorem test_cps_request : see { start .m6800 0xC0 [0x01] with
    pending := .request .irq, cfg := { Config.default with cycleMode := true } }
    (fun t => (t.pending, t.curCycles, t.pc)) = some (.service .irq, 2 + Config.intEntryCycles, 0x0101) := by rfl

/-- T60-4, tick 10: the service occupies one tick. -/
theorem test_cps_service : see { put 0xFFF8 [0x00, 0x40] (start .m6800 0xC0 []) with
    pending := .service .irq, cycle := 4, curCycles := 5, cfg := { Config.default with cycleMode := true } }
    (fun t => (t.pending, t.cycle, t.curCycles, t.pc, t.sp)) = some (.none, 0, 1, 0x0040, 0x00F8) := by decide

/-- T70-1 and T70-2: reset() restores memory and loads PC from the vector of `backup`. -/
theorem test_reset_from_backup : hostReset { State.reset with
    a := 0x55, backup := [(0xFFFE, 0x12), (0xFFFF, 0x34)], mem := [(0x0050, 0xAA)], pending := .request .rst, wai := true } =
    { State.reset with pc := 0x1234, backup := [(0xFFFE, 0x12), (0xFFFF, 0x34)], mem := [(0xFFFE, 0x12), (0xFFFF, 0x34)] } := by
  decide

/-- T70-3: PC from `RESET_PC`. -/
theorem test_reset_pc_preset : (hostReset { State.reset with
    cfg := { Config.default with resetPcFromVector := false, resetPc := 0x0200 } }).pc = 0x0200 := by decide

/-- A table word placed at reset is what the next step runs; SUBD selects the M6803. -/
theorem test_withFetchWord : see (State.reset.withFetchWord 24 0x010083) accD = some (0xFFFF, 0xD9, 0x0003) := by decide

/-! ## Witnesses: for every obligation with hypotheses, a concrete state and operands that meet them together, clause by
clause at the ends of the ranges -/

/-- A CPS state with nothing in flight. -/
def startCps (code : List Byte) : State := { start .m6800 0xC0 code with cfg := { Config.default with cycleMode := true } }

/-- A parked state. -/
def parked (mode : Bool) (p : Pending) : State :=
  { start .m6800 0xC0 [] with wai := true, pending := p, cfg := { Config.default with cycleMode := mode } }

theorem test_witness_DecodeOfEncode : WellFormed .m6803 (.jsr (.dir 0xFF)) = true ∧ WellFormed .m6800 (.invalid 0x9D) = true := by decide

theorem test_witness_EncodeOfDecode : decode .m6800 [0xFE, 0xFF, 0xFF, 0x00] = .ok (.ldx (.mem (.ext 0xFFFF)), [0x00]) := rfl

theorem test_witness_Length_invalid : (0xFD : Byte) ∈ invalidOpcodes .m6800 := by decide
theorem test_witness_Length_exact : opcodeLength .m6800 0xCE ≤ [0x00, 0x00].length + 1 := by decide
theorem test_witness_Length_short : ([0x00] : List Byte).length + 1 < opcodeLength .m6800 0xCE := by decide

theorem test_witness_M6803Adds_kept : decode .m6800 [0x01] = .ok (.nop, []) ∧ ∀ op, Instr.nop ≠ .invalid op :=
  ⟨rfl, fun _ => nofun⟩
theorem test_witness_M6803Adds_added : decode .m6803 [0x9D, 0x00] = .ok (.jsr (.dir 0x00), []) ∧ m6803Only (.jsr (.dir 0x00)) = true :=
  ⟨rfl, rfl⟩

theorem test_witness_EqualReads : Memory.wf [(0, 0x01), (65535, 0xFF)] = true := by decide

theorem test_witness_DecimalAdjust_clear : (0x99 : Byte).toNat / 16 ≤ 9 ∧ (0x99 : Byte).toNat % 16 ≤ 9 ∧
    (0x8A : Byte).toNat / 16 ≤ 8 ∧ 10 ≤ (0x8A : Byte).toNat % 16 ∧ (0x93 : Byte).toNat / 16 ≤ 9 ∧ (0x93 : Byte).toNat % 16 ≤ 3 ∧
    10 ≤ (0xA9 : Byte).toNat / 16 ∧ (0xA9 : Byte).toNat % 16 ≤ 9 ∧ 9 ≤ (0x9A : Byte).toNat / 16 ∧ 10 ≤ (0x9A : Byte).toNat % 16 ∧
    10 ≤ (0xA3 : Byte).toNat / 16 ∧ (0xA3 : Byte).toNat % 16 ≤ 3 ∧
    (start .m6800 0xC0 []).ccr.c = false ∧ (start .m6800 0xC0 []).ccr.h = false ∧ (start .m6800 0xE0 []).ccr.h = true := by decide
theorem test_witness_DecimalAdjust_set : (0x29 : Byte).toNat / 16 ≤ 2 ∧ (0x29 : Byte).toNat % 16 ≤ 9 ∧
    (0x2A : Byte).toNat / 16 ≤ 2 ∧ 10 ≤ (0x2A : Byte).toNat % 16 ∧ (0x33 : Byte).toNat / 16 ≤ 3 ∧ (0x33 : Byte).toNat % 16 ≤ 3 ∧
    (start .m6800 0xC1 []).ccr.c = true ∧ (start .m6800 0xC1 []).ccr.h = false ∧ (start .m6800 0xE1 []).ccr.h = true := by decide

theorem test_witness_DecimalSum : IsBcd 0x99 ∧ IsBcd 0x00 := by unfold IsBcd; decide

theorem test_witness_CompareIndex : (start .m6803 0xC0 []).cfg.variant = .m6803 ∧ (start .m6800 0xC0 []).cfg.variant = .m6800 := by decide

theorem test_witness_Invalid_at : At (start .m6800 0xC0 [0x87]) (.invalid 0x87) := ⟨_, rfl⟩
theorem test_witness_Invalid_settings : (start .m6800 0xC0 [0x87]).cfg.incOnMissing = true ∧
    (setIncOnMissing false (start .m6800 0xC0 [0x87])).cfg.incOnMissing = false := by decide

theorem test_witness_FlagWriters : exec .nop State.reset = .next (State.reset.advance 1) ∧ writesH .nop = false ∧ writesI .nop = false ∧
    writesN .nop = false ∧ writesZ .nop = false ∧ writesV .nop = false ∧ writesC .m6800 .nop = false :=
  ⟨rfl, by decide⟩

theorem test_witness_KeepTheRest : exec .nop State.reset = .next (State.reset.advance 1) ∧ Instr.nop ≠ .wai ∧ Instr.nop ≠ .daa ∧
    writesMemory .nop = false ∧ transfersControl .nop = false := ⟨rfl, by decide⟩
theorem test_witness_KeepTheRest_fault : exec (.invalid 0x00) (setIncOnMissing false State.reset) = .fault (.halt 0x0000 0x00) := rfl

theorem test_witness_BothVariants : ∀ o, Instr.swi ≠ .cpx o := fun _ => nofun

theorem test_witness_SecondIndex : State.reset.curIndReg = .x ∧ ∃ t, step State.reset = .next t := ⟨rfl, _, rfl⟩

theorem test_witness_StepRuns_ips : (start .m6800 0xC0 [0x01]).pending = .none ∧ (start .m6800 0xC0 [0x01]).wai = false ∧
    At (start .m6800 0xC0 [0x01]) .nop ∧ (start .m6800 0xC0 [0x01]).cfg.cycleMode = false := ⟨rfl, rfl, ⟨_, rfl⟩, rfl⟩
theorem test_witness_StepRuns_cps : (startCps [0x01]).pending = .none ∧ (startCps [0x01]).wai = false ∧ At (startCps [0x01]) .nop ∧
    (startCps [0x01]).cfg.cycleMode = true ∧ AtDispatchPoint (startCps [0x01]) := ⟨rfl, rfl, ⟨_, rfl⟩, rfl, Nat.zero_le _⟩

theorem test_witness_IpsService : (raiseRequest .irq (start .m6800 0xC0 [])).pending = .request .irq ∧
    (raiseRequest .irq (start .m6800 0xC0 [])).ccr.i = false ∧ (raiseRequest .irq (start .m6800 0xC0 [])).cfg.cycleMode = false := by decide
theorem test_witness_IpsService_unmasked : (raiseRequest .rst State.reset).pending = .request .rst ∧ State.reset.ccr.i = true := by decide

theorem test_witness_MaskedIrq : (raiseRequest .irq State.reset).pending = .request .irq ∧ (raiseRequest .irq State.reset).ccr.i = true ∧
    (raiseRequest .irq State.reset).cfg.cycleMode = false := by decide
theorem test_witness_MaskedIrq_cps_parked : ({ parked true (.request .irq) with ccr := State.reset.ccr } : State).ccr.i = true ∧
    AtDispatchPoint { parked true (.request .irq) with ccr := State.reset.ccr } := ⟨rfl, Nat.zero_le _⟩

theorem test_witness_Parked : (parked false .none).wai = true ∧ (parked false .none).pending = .none ∧
    ∃ t, step (parked false .none) = .next t := ⟨rfl, rfl, _, rfl⟩
theorem test_witness_Parked_ips_service : (parked false (.request .irq)).wai = true ∧
    ∃ t, step (parked false (.request .irq)) = .next t ∧ t.wai = false := ⟨rfl, _, rfl, rfl⟩
theorem test_witness_Parked_cps_service : (parked true (.service .irq)).wai = true ∧
    ∃ t, step (parked true (.service .irq)) = .next t ∧ t.wai = false := ⟨rfl, _, rfl, rfl⟩

theorem test_witness_CpsEntry_between : ({ startCps [] with cycle := 0, curCycles := 2 } : State).cfg.cycleMode = true ∧
    ¬AtDispatchPoint { startCps [] with cycle := 0, curCycles := 2 } := by unfold AtDispatchPoint; decide
theorem test_witness_CpsEntry_request : AtDispatchPoint { startCps [0x01] with pending := .request .irq, cycle := 1, curCycles := 2 } ∧
    (startCps [0x01]).ccr.i = false ∧ (startCps [0x01]).wai = false ∧
    At { startCps [0x01] with pending := .request .irq, cycle := 1, curCycles := 2 } .nop := ⟨Nat.le_refl _, rfl, rfl, ⟨_, rfl⟩⟩
theorem test_witness_CpsEntry_parked_request : AtDispatchPoint (parked true (.request .nmi)) ∧ (parked true (.request .nmi)).wai = true :=
  ⟨Nat.zero_le _, rfl⟩
theorem test_witness_CpsEntry_service : AtDispatchPoint { startCps [] with pending := .service .nmi } := Nat.zero_le _

theorem test_witness_OccupiesItsCycles : ({ startCps [] with curCycles := 12 } : State).cycle = 0 ∧ (0 : Nat) < 12 ∧ (11 : Nat) < 12 := by
  decide

theorem test_witness_HostStep : ∃ k, ({ startCps [] with pending := .service .irq } : State).pending = .service k := ⟨.irq, rfl⟩

theorem test_witness_Stops_halt : Dispatches (setIncOnMissing false (start .m6800 0xC0 [0x87])) ∧
    At (setIncOnMissing false (start .m6800 0xC0 [0x87])) (.invalid 0x87) :=
  ⟨⟨rfl, fun _ => .inl rfl, nofun⟩, ⟨_, rfl⟩⟩
theorem test_witness_Stops_service : ({ start .m6800 0xC0 [] with pending := .service .irq } : State).cfg.cycleMode = false := rfl

theorem test_witness_Inv : Inv State.reset ∧ ∃ t, step State.reset = .next t :=
  ⟨⟨⟨rfl, rfl⟩, nofun, ⟨Nat.zero_le _, Nat.le_refl _, nofun⟩, rfl⟩, _, rfl⟩
theorem test_witness_HostActions : HostDiscipline (.setMode false) State.reset := fun _ => nofun
theorem test_witness_DisciplinedHosts : Reachable State.reset := .reset

theorem test_witness_ImageThenReset : State.reset.cfg = Config.default ∧ State.reset.cfg.resetPcFromVector = true ∧
    ({ Config.default with resetPcFromVector := false } : Config).resetPcFromVector = false := by decide

theorem test_witness_HostRequests : State.reset.pending = .none ∧ (raiseRequest .nmi State.reset).pending ≠ .none := by decide

end Sys2Proof.Tests
end

section
/-! The condition code register as a byte (10_state.md R36, R37): each bit of the byte read, and the two round trips
between the six flags and the byte. -/

namespace Sys2Proof.Proofs

open Sys2Proof.Machine

/-! ## The bits of the byte

Stated with `[k]`, the form to which `simp` brings `getLsbD` at a literal. -/

@[simp] theorem getElem_flagBit (f : Bool) (mask : Byte) {k : Nat} (hk : k < 8) :
    (flagBit f mask)[k] = (f && mask[k]) := by
  cases f <;> simp [flagBit]

/-- The one place that unfolds `ccrByte`: a bit of the byte is a flag under its mask, or hardwired. -/
theorem getElem_ccrByte (f : Ccr) {k : Nat} (hk : k < 8) :
    (ccrByte f)[k] =
      ((0xC0 : Byte)[k] || f.h && (0x20 : Byte)[k] || f.i && (0x10 : Byte)[k] || f.n && (0x08 : Byte)[k] ||
        f.z && (0x04 : Byte)[k] || f.v && (0x02 : Byte)[k] || f.c && (0x01 : Byte)[k]) := by
  simp only [ccrByte, BitVec.getElem_or, getElem_flagBit]

@[simp] theorem ccrByte_bit0 (f : Ccr) : (ccrByte f)[0] = f.c := by simp [getElem_ccrByte]
@[simp] theorem ccrByte_bit1 (f : Ccr) : (ccrByte f)[1] = f.v := by simp [getElem_ccrByte]
@[simp] theorem ccrByte_bit2 (f : Ccr) : (ccrByte f)[2] = f.z := by simp [getElem_ccrByte]
@[simp] theorem ccrByte_bit3 (f : Ccr) : (ccrByte f)[3] = f.n := by simp [getElem_ccrByte]
@[simp] theorem ccrByte_bit4 (f : Ccr) : (ccrByte f)[4] = f.i := by simp [getElem_ccrByte]
@[simp] theorem ccrByte_bit5 (f : Ccr) : (ccrByte f)[5] = f.h := by simp [getElem_ccrByte]
@[simp] theorem ccrByte_bit6 (f : Ccr) : (ccrByte f)[6] = true := by simp [getElem_ccrByte]
@[simp] theorem ccrByte_bit7 (f : Ccr) : (ccrByte f)[7] = true := by simp [getElem_ccrByte]

/-! ## Writing what was read, and reading what was written -/

@[simp] theorem ccrOfByte_ccrByte (f : Ccr) : ccrOfByte (ccrByte f) = f := by
  simp [ccrOfByte]

/-- A write of the whole register ignores bits 7 and 6 of the byte, and the read back sets them (R37). -/
@[simp] theorem ccrByte_ccrOfByte (x : Byte) : ccrByte (ccrOfByte x) = x ||| 0xC0 := by
  apply BitVec.eq_of_getElem_eq
  intro k hk
  interval_cases k <;> simp [ccrOfByte]

/-- Settles O12: the bits one by one, then the two round trips. -/
theorem conditionCodeByteLayout : Obligations.ConditionCodeByteLayout :=
  ⟨fun f => ⟨ccrByte_bit0 f, ccrByte_bit1 f, ccrByte_bit2 f, ccrByte_bit3 f, ccrByte_bit4 f, ccrByte_bit5 f,
    ccrByte_bit6 f, ccrByte_bit7 f, ccrOfByte_ccrByte f⟩, ccrByte_ccrOfByte⟩

end Sys2Proof.Proofs
end

section
/-! The stack primitives (20_memory.md R78 to R80): what each writes and leaves, and that a pull undoes a push. -/

namespace Sys2Proof.Proofs

open Sys2Proof.Machine Sys2Proof.Claims

/-- 16-bit reads are big-endian (R73). -/
theorem toNat_read16 (m : Memory) (a : Word) :
    (m.read16 a).toNat = 256 * (m.read a).toNat + (m.read (a + 1)).toNat := by
  rw [Memory.read16, toNat_joinBytes, Nat.mul_comm]

/-! ## Push -/

theorem push8_eq (x : Byte) (s : State) : push8 x s = { s with mem := (push8 x s).mem, sp := s.sp - 1 } := rfl

theorem push16_eq (v : Word) (s : State) : push16 v s = { s with mem := (push16 v s).mem, sp := s.sp - 2 } := by
  ext <;> simp

theorem push8_storedByte (x : Byte) (s : State) : StoredByte s (push8 x s) s.sp x := fun b => by
  rw [push8_mem, Memory.read_write]

/-- The low byte, written first, is not overwritten by the high byte: the two addresses differ. -/
theorem push16_pushedWord (v : Word) (s : State) : PushedWord s (push16 v s) v := by
  refine ⟨push16_sp v s, fun b => ?_⟩
  have hne : s.sp ≠ s.sp - 1 := by bv_omega
  rw [push16_read]
  by_cases hb : b = s.sp
  · rw [hb, if_neg hne, if_pos rfl, if_pos rfl]
  · rw [if_neg hb, if_neg hb]

/-- The word lies big-endian just above the final SP (R80). -/
theorem push16_read16 (v : Word) (s : State) : (push16 v s).mem.read16 ((push16 v s).sp + 1) = v := by
  have hlo : (push16 v s).sp + 1 + 1 = s.sp := by rw [push16_sp]; bv_omega
  have hhi : (push16 v s).sp + 1 = s.sp - 1 := by rw [push16_sp]; bv_omega
  obtain ⟨-, hread⟩ := push16_pushedWord v s
  have hne : s.sp - 1 ≠ s.sp := by bv_omega
  rw [Memory.read16, hlo, hhi, hread, hread, if_neg hne, if_pos rfl, if_pos rfl, joinBytes_hiByte_loByte]

/-! ## Pull after push -/

theorem pull8_push8 (x : Byte) (s : State) : pull8 (push8 x s) = (x, { s with mem := (push8 x s).mem }) := by
  have hsp : s.sp - 1 + 1 = s.sp := BitVec.sub_add_cancel ..
  ext1
  · rw [pull8_fst, push8_sp, push8_mem, hsp, Memory.read_write_same]
  · rw [pull8_snd, push8_sp, hsp]
    rfl

theorem pull16_push16 (v : Word) (s : State) : pull16 (push16 v s) = (v, { s with mem := (push16 v s).mem }) := by
  have hsp : s.sp - 2 + 2 = s.sp := BitVec.sub_add_cancel ..
  ext1
  · rw [pull16_fst, push16_read16]
  · rw [pull16_snd, push16_sp, hsp]
    rfl

/-- Settles O9: the effect of each primitive, then the two round trips. -/
theorem stackPrimitives : Obligations.StackPrimitives := by
  intro s x v
  refine ⟨⟨?_, push8_storedByte x s, push8_eq x s⟩, ⟨?_, pull8_fst s, rfl⟩,
    ⟨push16_pushedWord v s, ?_, push16_read16 v s⟩, ⟨?_, pull16_snd s⟩, pull8_push8 x s, pull16_push16 v s⟩
  · rw [push8_sp]
    bv_omega
  · rw [pull8_snd, State.setSp_sp]
    bv_omega
  · rw [push16_sp, ← push16_eq]
  · have hsp : s.sp + 1 + 1 = s.sp + 2 := BitVec.add_assoc ..
    rw [pull16_fst, toNat_read16, hsp]

end Sys2Proof.Proofs
end

section
/-! The opcode maps of the two variants (30_encoding.md R113 to R118): which opcodes are INVALID on each, and what the
M6803 adds. The key fact is that a cell of the map has a cycle count on exactly the variants that have the instructions it
makes; whatever is decoded, and whether it is the same on both variants, follows from it without the map. -/

namespace Sys2Proof.Proofs

/-! ## A cell of the map agrees with the instructions it makes -/

/-- The variant gives this instruction a meaning of its own: it is not INVALID, and an M6803-only form needs the M6803. -/
def variantHas (v : Variant) : Instr → Bool
  | .invalid _ => false
  | i => !m6803Only i || decide (v = .m6803)

theorem variantHas_m6803 {i : Instr} (h : variantHas .m6800 i = true) : variantHas .m6803 i = true := by
  unfold variantHas at h ⊢
  split at h
  · exact h
  · simp

theorem variantHas_m6800_of_m6803Only {i : Instr} (h : m6803Only i = true) : variantHas .m6800 i = false := by
  unfold variantHas
  split
  · rfl
  · simp [h]

/-- The instruction a format makes of the two bytes after the opcode; it may use fewer. -/
def instrOf (op h l : Byte) : Format → Instr
  | .inh i => i
  | .byte f => f h
  | .word f => f (joinBytes h l)
  | .invalid => .invalid op

theorem exists_instrOf_of_read {op : Byte} {f : Format} {bytes rest : List Byte} {i : Instr}
    (hread : f.read op bytes = .ok (i, rest)) : ∃ h l, i = instrOf op h l f := by
  unfold Format.read at hread
  split at hread <;> cases hread
  case h_1 => exact ⟨0, 0, rfl⟩
  case h_2 h => exact ⟨h, 0, rfl⟩
  case h_3 h l => exact ⟨h, l, rfl⟩
  case h_4 => exact ⟨0, 0, rfl⟩

/-- The cell has a cycle count on exactly the variants that have the instructions it makes. -/
def FaithfulRow (r : OpcodeRow) : Prop :=
  ∀ op h l, variantHas .m6800 (instrOf op h l r.format) = r.m6800.isSome ∧
    variantHas .m6803 (instrOf op h l r.format) = r.m6803.isSome

/-- The one place that reads the maps of R113 and R114 cell by cell. -/
theorem opcodeRow_faithful (op : Byte) : FaithfulRow (opcodeRow op) := by
  unfold opcodeRow mapRow0 mapRow1 mapRow2 mapRow3 mapRow4 mapRow5 mapRow6 mapRow7
    mapRow8 mapRow9 mapRowA mapRowB mapRowC mapRowD mapRowE mapRowF
  split <;> split <;> exact fun _ _ _ => ⟨rfl, rfl⟩

theorem variantHas_of_read {op : Byte} {bytes rest : List Byte} {i : Instr}
    (hread : (opcodeRow op).format.read op bytes = .ok (i, rest)) (v : Variant) :
    variantHas v i = (opcodeCycles v op).isSome := by
  obtain ⟨h, l, rfl⟩ := exists_instrOf_of_read hread
  obtain ⟨h6800, h6803⟩ := opcodeRow_faithful op op h l
  cases v
  · exact h6800
  · exact h6803

/-! ## What the decoder can answer -/

theorem decode_of_none {v : Variant} {op : Byte} (hc : opcodeCycles v op = none) (more : List Byte) :
    decode v (op :: more) = .ok (.invalid op, more) := by
  simp [decode, hc]

theorem decode_of_isSome {v : Variant} {op : Byte} (hc : (opcodeCycles v op).isSome = true) (more : List Byte) :
    decode v (op :: more) = (opcodeRow op).format.read op more := by
  obtain ⟨c, hc⟩ := Option.isSome_iff_exists.mp hc
  simp [decode, hc]

/-- A decoded instruction is INVALID, with all the bytes after the opcode left over, or read in the format of a cell that
has a cycle count on exactly the variants that have the instruction. -/
theorem decode_cases {v : Variant} {bytes rest : List Byte} {i : Instr} (h : decode v bytes = .ok (i, rest)) :
    ∃ op more, bytes = op :: more ∧
      (opcodeCycles v op = none ∧ i = .invalid op ∧ rest = more ∨
        variantHas v i = true ∧ (∀ w, variantHas w i = (opcodeCycles w op).isSome) ∧
          (opcodeRow op).format.read op more = .ok (i, rest)) := by
  cases bytes with
  | nil => cases h
  | cons op more =>
    refine ⟨op, more, rfl, ?_⟩
    cases hc : opcodeCycles v op with
    | none =>
      rw [decode_of_none hc] at h
      cases h
      exact .inl ⟨rfl, rfl, rfl⟩
    | some c =>
      have hs : (opcodeCycles v op).isSome = true := by rw [hc]; rfl
      rw [decode_of_isSome hs] at h
      have hv := variantHas_of_read h
      exact .inr ⟨(hv v).trans hs, hv, h⟩

/-! ## The INVALID opcodes of each variant (R115, R116) -/

theorem opcodeCycles_eq_none_iff (v : Variant) (op : Byte) : opcodeCycles v op = none ↔ op ∈ invalidOpcodes v := by
  refine ⟨?_, opcodeCycles_of_invalid v op⟩
  revert op
  cases v <;> decide

theorem decode_eq_invalid_iff (v : Variant) (op : Byte) (rest : List Byte) :
    decode v (op :: rest) = .ok (.invalid op, rest) ↔ op ∈ invalidOpcodes v := by
  refine ⟨fun h => ?_, decode_invalid v op rest⟩
  obtain ⟨_, _, hbytes, ⟨hc, -, -⟩ | ⟨hv, -, -⟩⟩ := decode_cases h
  · cases hbytes
    exact (opcodeCycles_eq_none_iff v op).mp hc
  · cases hv

/-- Settles O5: the decoder's INVALID opcodes are those of the list; the lists themselves are counted. -/
theorem invalidOpcodesOfEachVariant : Obligations.InvalidOpcodesOfEachVariant :=
  ⟨decode_eq_invalid_iff, rfl, rfl, by decide, by decide⟩

/-! ## What the M6803 adds (R118) -/

/-- The 23 opcodes of R118. -/
def addedOpcodes : List Byte :=
  [0x04, 0x05, 0x21, 0x38, 0x3A, 0x3C, 0x3D, 0x83, 0x93, 0xA3, 0xB3, 0xC3, 0xD3, 0xE3, 0xF3, 0xCC, 0xDC, 0xEC, 0xFC,
    0xDD, 0xED, 0xFD, 0x9D]

theorem mem_addedOpcodes_iff (op : Byte) :
    op ∈ invalidOnM6800 ∧ op ∉ invalidOnM6803 ↔ op ∈ addedOpcodes := by
  have hperm : (invalidOnM6800.filter (· ∉ invalidOnM6803)).Perm addedOpcodes := by decide
  rw [← hperm.mem_iff, List.mem_filter, decide_eq_true_iff]

/-- The M6803 removes nothing: what the M6800 decodes, it decodes alike. -/
theorem decode_m6803_of_m6800 {bytes rest : List Byte} {i : Instr} (h : decode .m6800 bytes = .ok (i, rest))
    (hi : ∀ op, i ≠ .invalid op) : decode .m6803 bytes = .ok (i, rest) := by
  obtain ⟨op, more, rfl, ⟨-, hinv, -⟩ | ⟨h6800, hv, hread⟩⟩ := decode_cases h
  · exact absurd hinv (hi op)
  · have hs : (opcodeCycles .m6803 op).isSome = true := (hv .m6803).symm.trans (variantHas_m6803 h6800)
    rw [decode_of_isSome hs, hread]

theorem decode_m6800_of_m6803Only {bytes rest : List Byte} {i : Instr} (h : decode .m6803 bytes = .ok (i, rest))
    (hi : m6803Only i = true) : ∃ op more, bytes = op :: more ∧ decode .m6800 bytes = .ok (.invalid op, more) := by
  obtain ⟨op, more, rfl, ⟨-, rfl, -⟩ | ⟨-, hv, -⟩⟩ := decode_cases h
  · cases hi
  · have hc : opcodeCycles .m6800 op = none := by
      rw [← Option.not_isSome_iff_eq_none, ← hv .m6800, variantHas_m6800_of_m6803Only hi]
      exact Bool.false_ne_true
    exact ⟨op, more, rfl, decode_of_none hc more⟩

/-- R112: bits 5:4 of the opcode are the operand's mode. -/
theorem encode16_head?_mem (base : Byte) (o : Operand16) : (encode16 base o).head? ∈
    [some base, some (base ||| 0x10), some (base ||| 0x20), some (base ||| 0x30)] := by
  rcases o with v | (d | d | w) <;> simp [encode16]

theorem encodeMem_head?_mem (base : Byte) (m : MemOperand) : (encodeMem base m).head? ∈
    [some (base ||| 0x10), some (base ||| 0x20), some (base ||| 0x30)] := by
  cases m <;> simp [encodeMem]

/-- Settles O6: the two lists compared, what the decoders do with the opcodes of each, and the encodings. -/
theorem m6803AddsTwentyThreeOpcodes : Obligations.M6803AddsTwentyThreeOpcodes :=
  ⟨mem_addedOpcodes_iff, fun _ _ _ => decode_m6803_of_m6800, fun _ _ _ => decode_m6800_of_m6803Only,
    rfl, rfl, fun _ => rfl, rfl, rfl, rfl, rfl, encode16_head?_mem 0x83, encode16_head?_mem 0xC3, encode16_head?_mem 0xCC,
    encodeMem_head?_mem 0xCD, fun _ => rfl⟩

end Sys2Proof.Proofs
end

section
/-! Additions and subtractions (40_decode_dispatch.md R162 to R165): the results and flags as exact arithmetic. The bitwise
carry and overflow formulas are read once, at any width and for a sum with a carry in; a subtraction is the sum with the
complement of the subtrahend and the complement of the borrow. -/

namespace Sys2Proof.Proofs

open Sys2Proof.Machine Sys2Proof.Claims

/-! ## The sum with a carry in -/

/-- What `Add8`, `Sub8`, `Add16` and `Sub16` all compute. -/
def addWithCarry {w : Nat} (a b : BitVec w) (c : Bool) : BitVec w := a + b + BitVec.ofNat w c.toNat

theorem carryIn8_eq_ofNat (c : Bool) : carryIn8 c = BitVec.ofNat 8 c.toNat := by
  cases c <;> rfl

theorem add8_eq_addWithCarry (a b : Byte) (c : Bool) : add8 a b c = addWithCarry a b c := by
  rw [add8, carryIn8_eq_ofNat, addWithCarry]

theorem add_eq_addWithCarry {w : Nat} (a b : BitVec w) : a + b = addWithCarry a b false :=
  (BitVec.add_zero (a + b)).symm

/-- `-b` is `~b + 1`, and a borrow takes that 1 away again. -/
theorem sub_sub_eq_addWithCarry_not {w : Nat} (a b : BitVec w) (c : Bool) :
    a - b - BitVec.ofNat w c.toNat = addWithCarry a (~~~b) (!c) := by
  have hsub : a - b = a + ~~~b + 1#w := by rw [BitVec.sub_eq_add_neg, BitVec.neg_eq_not_add, BitVec.add_assoc]
  rw [hsub, addWithCarry]
  cases c
  · exact BitVec.sub_zero _
  · exact (BitVec.add_sub_cancel ..).trans (BitVec.add_zero _).symm

theorem sub8_eq_addWithCarry_not (a b : Byte) (c : Bool) : sub8 a b c = addWithCarry a (~~~b) (!c) := by
  rw [sub8, carryIn8_eq_ofNat, sub_sub_eq_addWithCarry_not]

theorem sub_eq_addWithCarry_not {w : Nat} (a b : BitVec w) : a - b = addWithCarry a (~~~b) (!false) :=
  (BitVec.sub_zero (a - b)).symm.trans (sub_sub_eq_addWithCarry_not a b false)

theorem toInt_addWithCarry {w : Nat} (a b : BitVec w) (c : Bool) :
    (addWithCarry a b c).toInt = (a.toInt + b.toInt + c.toNat).bmod (2 ^ w) := by
  rw [← BitVec.toInt_ofInt, BitVec.ofInt_add, BitVec.ofInt_add, BitVec.ofInt_toInt, BitVec.ofInt_toInt,
    BitVec.ofInt_natCast, addWithCarry]

/-! ## The results -/

theorem add_eq_ofNat {w : Nat} (a b : BitVec w) : a + b = BitVec.ofNat w (a.toNat + b.toNat) := by
  rw [BitVec.ofNat_add, BitVec.ofNat_toNat, BitVec.ofNat_toNat, BitVec.setWidth_eq, BitVec.setWidth_eq]

theorem ofInt_sub (w : Nat) (x y : Int) : BitVec.ofInt w (x - y) = BitVec.ofInt w x - BitVec.ofInt w y := by
  rw [Int.sub_eq_add_neg, BitVec.ofInt_add, BitVec.ofInt_neg, BitVec.sub_eq_add_neg]

theorem sub_eq_ofInt {w : Nat} (a b : BitVec w) : a - b = BitVec.ofInt w ((a.toNat : Int) - b.toNat) := by
  rw [ofInt_sub, BitVec.ofInt_natCast, BitVec.ofInt_natCast, BitVec.ofNat_toNat, BitVec.ofNat_toNat, BitVec.setWidth_eq,
    BitVec.setWidth_eq]

theorem add8_eq_sum8 (a b : Byte) (c : Bool) : add8 a b c = sum8 a b c.toNat := by
  rw [add8, sum8, carryIn8_eq_ofNat, add_eq_ofNat a b, ← BitVec.ofNat_add]

theorem sub8_eq_dif8 (a b : Byte) (c : Bool) : sub8 a b c = dif8 a b c.toNat := by
  rw [sub8, dif8, carryIn8_eq_ofNat, sub_eq_ofInt a b, ofInt_sub 8 (_ - _), BitVec.ofInt_natCast]

/-! ## Carry and borrow -/

/-- R162's formula at bit `i` is the carry into the next bit. -/
theorem carryOut_addWithCarry {w i : Nat} (hi : i < w) (a b : BitVec w) (c : Bool) :
    carryOut (a.getLsbD i) (b.getLsbD i) ((addWithCarry a b c).getLsbD i) = BitVec.carry (i + 1) a b c := by
  rw [addWithCarry, ← BitVec.toNat_ofBool, BitVec.ofNat_toNat, BitVec.getLsbD_add_add_bool hi, BitVec.carry_succ]
  cases a.getLsbD i <;> cases b.getLsbD i <;> cases BitVec.carry i a b c <;> rfl

theorem carryOut_top {n : Nat} (a b : BitVec (n + 1)) (c : Bool) :
    carryOut (a.getLsbD n) (b.getLsbD n) ((addWithCarry a b c).getLsbD n) =
      decide (2 ^ (n + 1) ≤ a.toNat + b.toNat + c.toNat) :=
  (carryOut_addWithCarry n.lt_succ_self a b c).trans BitVec.carry_width

theorem getLsbD_not_top {n : Nat} (b : BitVec (n + 1)) : (~~~b).getLsbD n = !b.getLsbD n := by
  simp

/-- R163's borrow is the missing carry of the sum with the complement. -/
theorem borrowOut_eq_not_carryOut (a b r : Bool) : borrowOut a b r = !carryOut a (!b) r := by
  cases a <;> cases b <;> cases r <;> rfl

theorem toNat_add_toNat_not (c : Bool) : c.toNat + (!c).toNat = 1 := by
  cases c <;> rfl

theorem borrowOut_top {n : Nat} (a b : BitVec (n + 1)) (c : Bool) :
    borrowOut (a.getLsbD n) (b.getLsbD n) ((addWithCarry a (~~~b) (!c)).getLsbD n) =
      decide (a.toNat < b.toNat + c.toNat) := by
  have hb := b.isLt
  rw [borrowOut_eq_not_carryOut, ← getLsbD_not_top, carryOut_top, BitVec.toNat_not, ← decide_not, decide_eq_decide]
  have hc := toNat_add_toNat_not c
  omega

/-! ## Signed overflow -/

/-- A number at most one turn out of the signed range is brought into it by one turn. -/
theorem bmod_two_mul_eq (h : Nat) (x : Int) (hlo : -2 * h ≤ x) (hhi : x < 2 * h) :
    x.bmod (2 * h) = if x < -h then x + 2 * h else if h ≤ x then x - 2 * h else x := by
  split
  · rw [← Int.add_bmod_right]
    exact Int.bmod_eq_of_le_mul_two (by omega) (by omega)
  · split
    · rw [← Int.sub_bmod_right]
      exact Int.bmod_eq_of_le_mul_two (by omega) (by omega)
    · exact Int.bmod_eq_of_le_mul_two (by omega) (by omega)

/-- R162's formula says that the operands have one sign and the sum the other. -/
theorem addOverflow_decide (p q r : Prop) [Decidable p] [Decidable q] [Decidable r] :
    addOverflow (decide p) (decide q) (decide r) = decide ((p ↔ q) ∧ ¬(p ↔ r)) := by
  by_cases p <;> by_cases q <;> by_cases r <;> simp [addOverflow, *]

/-- The sum wraps, and its sign differs from that of both operands, exactly when it is out of range. -/
theorem addOverflow_top {n : Nat} (a b : BitVec (n + 1)) (c : Bool) :
    addOverflow (a.getLsbD n) (b.getLsbD n) ((addWithCarry a b c).getLsbD n) =
      decide (a.toInt + b.toInt + c.toNat < -2 ^ n ∨ 2 ^ n ≤ a.toInt + b.toInt + c.toNat) := by
  have hsign (x : BitVec (n + 1)) : x.getLsbD n = decide (x.toInt < 0) :=
    (BitVec.msb_eq_getLsbD_last x).symm.trans BitVec.msb_eq_toInt
  have halo : -2 ^ n ≤ a.toInt := a.le_toInt
  have hahi : a.toInt < 2 ^ n := a.toInt_lt
  have hblo : -2 ^ n ≤ b.toInt := b.le_toInt
  have hbhi : b.toInt < 2 ^ n := b.toInt_lt
  have hc := c.toNat_le
  have hwrap := bmod_two_mul_eq (2 ^ n) (a.toInt + b.toInt + c.toNat)
  rw [← Nat.pow_succ', Nat.cast_pow, Nat.cast_two, ← toInt_addWithCarry] at hwrap
  replace hwrap := hwrap (by omega) (by omega)
  rw [hsign, hsign, hsign, addOverflow_decide, decide_eq_decide]
  split_ifs at hwrap <;> omega

theorem subOverflow_eq_addOverflow_not (a b r : Bool) : subOverflow a b r = addOverflow a (!b) r := by
  cases b <;> simp [addOverflow, subOverflow]

theorem toInt_not_eq_neg_sub_one {n : Nat} (b : BitVec (n + 1)) : (~~~b).toInt = -b.toInt - 1 := by
  have hb := b.isLt
  rw [BitVec.toInt_eq_msb_cond, BitVec.toInt_eq_msb_cond, BitVec.msb_not, BitVec.toNat_not, Nat.sub_sub,
    Nat.cast_sub (by omega)]
  cases b.msb <;> simp <;> ring

theorem subOverflow_top {n : Nat} (a b : BitVec (n + 1)) (c : Bool) :
    subOverflow (a.getLsbD n) (b.getLsbD n) ((addWithCarry a (~~~b) (!c)).getLsbD n) =
      decide (a.toInt - b.toInt - c.toNat < -2 ^ n ∨ 2 ^ n ≤ a.toInt - b.toInt - c.toNat) := by
  have hexact : a.toInt + (~~~b).toInt + (!c).toNat = a.toInt - b.toInt - c.toNat := by
    have hc := toNat_add_toNat_not c
    rw [toInt_not_eq_neg_sub_one]
    omega
  rw [subOverflow_eq_addOverflow_not, ← getLsbD_not_top, addOverflow_top, hexact]

/-! ## The flags -/

theorem nz8_eq_signZero8 (r : Byte) (f : Ccr) : nz8 r f = signZero8 r f := by
  have hn : r.getLsbD 7 = decide (128 ≤ r.toNat) := BitVec.msb_eq_decide r
  have hz : r = 0 ↔ r.toNat = 0 := BitVec.toNat_eq
  simp only [nz8, signZero8, hn, hz]

theorem nz16_eq_signZero16 (r : Word) (f : Ccr) : nz16 r f = signZero16 r f := by
  have hn : r.getLsbD 15 = decide (32768 ≤ r.toNat) := BitVec.msb_eq_decide r
  have hz : r = 0 ↔ r.toNat = 0 := BitVec.toNat_eq
  simp only [nz16, signZero16, hn, hz]

theorem addFlags8_eq_sumFlags8 (a b : Byte) (c : Bool) (f : Ccr) :
    addFlags8 a b (add8 a b c) f = sumFlags8 a b c.toNat f := by
  rw [addFlags8, sumFlags8, nz8_eq_signZero8, ← add8_eq_sum8, add8_eq_addWithCarry, carryOut_addWithCarry (by decide),
    carryOut_top, addOverflow_top]
  rfl

theorem subFlags8_eq_difFlags8 (a b : Byte) (c : Bool) (f : Ccr) :
    subFlags8 a b (sub8 a b c) f = difFlags8 a b c.toNat f := by
  rw [subFlags8, difFlags8, nz8_eq_signZero8, ← sub8_eq_dif8, sub8_eq_addWithCarry_not, borrowOut_top, subOverflow_top]
  rfl

theorem addFlags16_eq_sumFlags16 (a b : Word) (f : Ccr) : addFlags16 a b (a + b) f = sumFlags16 a b f := by
  rw [addFlags16, sumFlags16, nz16_eq_signZero16, sum16, ← add_eq_ofNat, add_eq_addWithCarry, carryOut_top, addOverflow_top]
  simp only [Bool.toNat_false, Nat.cast_zero, add_zero]
  rfl

theorem subFlags16_eq_difFlags16 (a b : Word) (f : Ccr) : subFlags16 a b (a - b) f = difFlags16 a b f := by
  rw [subFlags16, difFlags16, nz16_eq_signZero16, dif16, ← sub_eq_ofInt, sub_eq_addWithCarry_not, borrowOut_top,
    subOverflow_top]
  simp only [Bool.toNat_false, Nat.cast_zero, add_zero, sub_zero]
  rfl

/-- Settles O11: the results, then the flags, of each operation. -/
theorem additionAndSubtractionFlags : Obligations.AdditionAndSubtractionFlags :=
  ⟨fun a b cin f => ⟨add8_eq_sum8 a b cin, addFlags8_eq_sumFlags8 a b cin f, sub8_eq_dif8 a b cin,
    subFlags8_eq_difFlags8 a b cin f⟩,
   fun a b f => ⟨add_eq_ofNat a b, addFlags16_eq_sumFlags16 a b f, sub_eq_ofInt a b, subFlags16_eq_difFlags16 a b f⟩⟩

end Sys2Proof.Proofs
end

section
/-! The addressing modes (40_decode_dispatch.md R144 to R147, R153): addresses and operands as numbers modulo 65,536. -/

namespace Sys2Proof.Proofs

open Sys2Proof.Machine

/-- R144. -/
theorem toNat_ea_dir (d : Byte) (s : State) : (ea (.dir d) s).toNat = d.toNat :=
  toNat_zext16 d

/-- R145: the offset is unsigned. -/
theorem toNat_ea_ind (d : Byte) (s : State) : (ea (.ind d) s).toNat = (s.ix.toNat + d.toNat) % 65536 := by
  rw [ea, BitVec.toNat_add, toNat_zext16]

/-- R147: the displacement is signed. -/
theorem toNat_relTarget (d : Byte) (s : State) :
    ((relTarget d s).toNat : Int) = (s.pc.toNat + 2 + d.toInt) % 65536 := by
  have hrel : relTarget d s = BitVec.ofInt 16 (s.pc.toNat + 2 + d.toInt) := by
    rw [BitVec.ofInt_add, BitVec.ofInt_add, BitVec.ofInt_natCast, BitVec.ofNat_toNat, BitVec.setWidth_eq,
      ← toInt_sext16, BitVec.ofInt_toInt]
    rfl
  rw [hrel, BitVec.toNat_ofInt]
  exact Int.toNat_of_nonneg (Int.emod_nonneg _ (by decide))

/-- R73, R153: the high byte at the effective address, the low byte at the next. -/
theorem toNat_op16_mem (m : MemOperand) (s : State) : (op16 (.mem m) s).toNat =
    256 * (s.mem.read (ea m s)).toNat + (s.mem.read (BitVec.ofNat 16 ((ea m s).toNat + 1))).toNat := by
  rw [op16, toNat_read16, BitVec.ofNat_add, BitVec.ofNat_toNat, BitVec.setWidth_eq]
  rfl

/-- Settles O10: what is not the mode's definition is one of the four numbers above. -/
theorem effectiveAddressesOfTheModes : Obligations.EffectiveAddressesOfTheModes := fun s d _ m =>
  ⟨toNat_ea_dir d s, rfl, toNat_ea_ind d s, rfl, rfl, rfl, toNat_relTarget d s, rfl, rfl, rfl, rfl, rfl, rfl, rfl,
    toNat_op16_mem m s⟩

end Sys2Proof.Proofs
end

section
/-! Rows of the opcode table (30_encoding.md R112, R120): the forms of a two-operand instruction follow from the opcode of
its IMM column, and the length of the encoding is what the instruction's meaning adds to PC (40_decode_dispatch.md R150). -/

namespace Sys2Proof.Proofs

open Sys2Proof.Machine Sys2Proof.Claims

/-! ## Bytes and cycles -/

/-- The opcode byte alone gives the cycle counts. -/
theorem row_of_encode {i : Instr} {op : Byte} {more : List Byte} {c0 c3 : Option Nat} (h : encode i = op :: more)
    (h0 : opcodeCycles .m6800 op = c0) (h3 : opcodeCycles .m6803 op = c3) : Row i (op :: more) c0 c3 := by
  simp only [Row, instrCycles, h, h0, h3, and_self]

/-- The cycle counts of the four columns of the two-operand group, `base` the opcode of the IMM column (R112). -/
def columnCycles (v : Variant) (base : Byte) : ModeCycles :=
  ⟨opcodeCycles v base, opcodeCycles v (base ||| 0x10), opcodeCycles v (base ||| 0x20), opcodeCycles v (base ||| 0x30)⟩

theorem rowsMem_of_encode {i : MemOperand → Instr} (base : Byte) (h : ∀ m, encode (i m) = encodeMem base m) :
    RowsMem i (base ||| 0x10) (base ||| 0x20) (base ||| 0x30) (columnCycles .m6800 base) (columnCycles .m6803 base) :=
  fun b w => ⟨row_of_encode (h (.dir b)) rfl rfl, row_of_encode (h (.ind b)) rfl rfl, row_of_encode (h (.ext w)) rfl rfl⟩

theorem rows16_of_encode {i : Operand16 → Instr} (base : Byte) (h : ∀ o, encode (i o) = encode16 base o) :
    Rows16 i base (base ||| 0x10) (base ||| 0x20) (base ||| 0x30) (columnCycles .m6800 base) (columnCycles .m6803 base) :=
  fun b w => ⟨row_of_encode (h (.imm w)) rfl rfl, row_of_encode (h (.mem (.dir b))) rfl rfl,
    row_of_encode (h (.mem (.ind b))) rfl rfl, row_of_encode (h (.mem (.ext w))) rfl rfl⟩

/-- The instructions with an 8-bit source operand are all of one cycle class. -/
theorem rows8_of_encode {i : Operand8 → Instr} (base : Byte) (h : ∀ o, encode (i o) = encode8 base o)
    (h0 : columnCycles .m6800 base = ⟨some 2, some 3, some 5, some 4⟩)
    (h3 : columnCycles .m6803 base = ⟨some 2, some 3, some 4, some 4⟩) :
    Rows8 i base (base ||| 0x10) (base ||| 0x20) (base ||| 0x30) := by
  obtain ⟨imm0, dir0, ind0, ext0⟩ := ModeCycles.mk.inj h0
  obtain ⟨imm3, dir3, ind3, ext3⟩ := ModeCycles.mk.inj h3
  exact fun b w => ⟨row_of_encode (h (.imm b)) imm0 imm3, row_of_encode (h (.mem (.dir b))) dir0 dir3,
    row_of_encode (h (.mem (.ind b))) ind0 ind3, row_of_encode (h (.mem (.ext w))) ext0 ext3⟩

/-! ## The next instruction -/

theorem length_encode8 (base : Byte) (o : Operand8) : (encode8 base o).length = len8 o := by
  obtain _ | (_ | _ | _) := o <;> rfl

theorem length_encode16 (base : Byte) (o : Operand16) : (encode16 base o).length = len16 o := by
  obtain _ | (_ | _ | _) := o <;> rfl

theorem length_encodeMem (base : Byte) (m : MemOperand) : (encodeMem base m).length = memLen m := by
  cases m <;> rfl

/-- The step over an instruction whose meaning has left PC alone so far. -/
theorem advance_eq (i : Instr) {n : Nat} (hlen : (encode i).length = n) {s t : State} (hpc : t.pc = s.pc) :
    t.advance n = { t with pc := nextPc i s } := by
  rw [nextPc, hlen, ← hpc]
  rfl

theorem setCcr_advance_eq (i : Instr) {n : Nat} (hlen : (encode i).length = n) {s t : State} (hpc : t.pc = s.pc)
    (f : Ccr) : (t.setCcr f).advance n = { t with ccr := f, pc := nextPc i s } :=
  advance_eq i hlen (show (t.setCcr f).pc = s.pc from hpc)

end Sys2Proof.Proofs
end

section
/-! Loads and stores (41_load_store_transfer.md R200 to R209): each operation as one equation for the whole next state, and
the obligations from these equations. -/

namespace Sys2Proof.Proofs

open Sys2Proof.Machine Sys2Proof.Claims

/-! ## Flags and bytes as numbers -/

theorem logic8_eq_movedFlags8 (r : Byte) (f : Ccr) : logic8 r f = movedFlags8 r f := by
  rw [logic8, movedFlags8, nz8_eq_signZero8]

theorem move16_eq_movedFlags16 (r : Word) (f : Ccr) : move16 r f = movedFlags16 r f := by
  rw [move16, movedFlags16, nz16_eq_signZero16]

theorem hiByte_eq_ofNat (w : Word) : hiByte w = BitVec.ofNat 8 (w.toNat / 256) := by
  rw [← toNat_hiByte, BitVec.ofNat_toNat, BitVec.setWidth_eq]

theorem loByte_eq_ofNat (w : Word) : loByte w = BitVec.ofNat 8 w.toNat := by
  apply BitVec.eq_of_toNat_eq
  rw [toNat_loByte, BitVec.toNat_ofNat]

theorem joinBytes_eq_ofNat (h l : Byte) : joinBytes h l = BitVec.ofNat 16 (256 * h.toNat + l.toNat) := by
  rw [Nat.mul_comm, ← toNat_joinBytes, BitVec.ofNat_toNat, BitVec.setWidth_eq]

/-! ## What a store leaves in memory -/

theorem storedByte_of_mem {s t : State} {a : Word} {v : Byte} (h : t.mem = s.mem.write a v) : StoredByte s t a v :=
  fun b => by rw [h, Memory.read_write]

theorem storedWord_of_mem {s t : State} {a v : Word} (h : t.mem = s.mem.write16 a v) : StoredWord s t a v :=
  fun b => by rw [h, Memory.read_write16]

/-! ## The next states -/

theorem loadAcc_eq (i : Instr) {o : Operand8} (hlen : (encode i).length = len8 o) (r : Acc) (s : State) :
    loadAcc r o s =
      { s.setAcc r (op8 o s) with ccr := movedFlags8 (op8 o s) s.ccr, pc := nextPc i s } := by
  rw [loadAcc, logic8_eq_movedFlags8, setCcr_advance_eq i hlen (State.setAcc_pc s r _)]

theorem storeAcc_eq (i : Instr) {m : MemOperand} (hlen : (encode i).length = memLen m) (r : Acc) (s : State) :
    storeAcc r m s =
      { s with mem := s.mem.write (ea m s) (s.acc r), ccr := movedFlags8 (s.acc r) s.ccr, pc := nextPc i s } := by
  rw [storeAcc, logic8_eq_movedFlags8, setCcr_advance_eq i hlen (State.store8_pc s _ _)]
  rfl

theorem storeWord_eq (i : Instr) {m : MemOperand} (hlen : (encode i).length = memLen m) (v : Word) (s : State) :
    storeWord v m s =
      { s with mem := s.mem.write16 (ea m s) v, ccr := movedFlags16 v s.ccr, pc := nextPc i s } := by
  rw [storeWord, move16_eq_movedFlags16, setCcr_advance_eq i hlen (State.store16_pc s _ _)]
  rfl

theorem execLds_eq (o : Operand16) (s : State) : execLds o s =
    .next { s with sp := op16 o s, ccr := movedFlags16 (op16 o s) s.ccr, pc := nextPc (.lds o) s } := by
  rw [execLds, move16_eq_movedFlags16, setCcr_advance_eq (.lds o) (length_encode16 _ o) (State.setSp_pc s _)]
  rfl

theorem execLdx_eq (o : Operand16) (s : State) : execLdx o s =
    .next { s.setIx (op16 o s) with ccr := movedFlags16 (op16 o s) s.ccr, pc := nextPc (.ldx o) s } := by
  rw [execLdx, move16_eq_movedFlags16, setCcr_advance_eq (.ldx o) (length_encode16 _ o) (State.setIx_pc s _)]

theorem execLdd_eq (o : Operand16) (s : State) : execLdd o s =
    .next { s with a := BitVec.ofNat 8 ((op16 o s).toNat / 256), b := BitVec.ofNat 8 (op16 o s).toNat,
                   ccr := movedFlags16 (op16 o s) s.ccr, pc := nextPc (.ldd o) s } := by
  rw [← hiByte_eq_ofNat, ← loByte_eq_ofNat, execLdd, move16_eq_movedFlags16,
    setCcr_advance_eq (.ldd o) (length_encode16 _ o) (State.setD_pc s _)]
  rfl

/-! ## The obligations -/

/-- Settles O14: LDAA and LDAB are one operation on the two accumulators. -/
theorem accumulatorLoads : Obligations.AccumulatorLoads :=
  ⟨rows8_of_encode 0x86 (fun _ => rfl) rfl rfl, rows8_of_encode 0xC6 (fun _ => rfl) rfl rfl, fun s o =>
    ⟨congrArg Host.Outcome.next (loadAcc_eq (.ldaa o) (length_encode8 _ o) .a s),
     congrArg Host.Outcome.next (loadAcc_eq (.ldab o) (length_encode8 _ o) .b s)⟩⟩

/-- Settles O15: STAA and STAB are one operation on the two accumulators. -/
theorem accumulatorStores : Obligations.AccumulatorStores :=
  ⟨rowsMem_of_encode 0x87 fun _ => rfl, rowsMem_of_encode 0xC7 fun _ => rfl, fun s m =>
    ⟨⟨_, congrArg Host.Outcome.next (storeAcc_eq (.staa m) (length_encodeMem _ m) .a s), rfl, storedByte_of_mem rfl⟩,
     ⟨_, congrArg Host.Outcome.next (storeAcc_eq (.stab m) (length_encodeMem _ m) .b s), rfl, storedByte_of_mem rfl⟩⟩⟩

/-- Settles O16: the next states of the three loads. -/
theorem wordLoads : Obligations.WordLoads :=
  ⟨rows16_of_encode 0x8E fun _ => rfl, rows16_of_encode 0xCE fun _ => rfl, rows16_of_encode 0xCC fun _ => rfl, fun s o =>
    ⟨execLds_eq o s, execLdx_eq o s, execLdd_eq o s⟩⟩

/-- Settles O17: the three stores are one operation on SP, IX and D, and D is the number `256 * A + B`. -/
theorem wordStores : Obligations.WordStores :=
  ⟨rowsMem_of_encode 0x8F fun _ => rfl, rowsMem_of_encode 0xCF fun _ => rfl,
   rowsMem_of_encode 0xCD fun _ => rfl, fun s m =>
    ⟨⟨_, congrArg Host.Outcome.next (storeWord_eq (.sts m) (length_encodeMem _ m) s.sp s), rfl, storedWord_of_mem rfl⟩,
     ⟨_, congrArg Host.Outcome.next (storeWord_eq (.stx m) (length_encodeMem _ m) s.ix s), rfl, storedWord_of_mem rfl⟩,
     ⟨_, s.d, joinBytes_eq_ofNat s.a s.b,
      congrArg Host.Outcome.next (storeWord_eq (.std m) (length_encodeMem _ m) s.d s), rfl, storedWord_of_mem rfl⟩⟩⟩

end Sys2Proof.Proofs
end

section
/-! Transfers, pushes and pulls (41_load_store_transfer.md R210 to R221): each operation as one equation for the whole next
state. All twelve instructions are one byte long. -/

namespace Sys2Proof.Proofs

open Sys2Proof.Machine Sys2Proof.Claims

/-- Bits 7 and 6 of the CCR byte are set already (10_state.md R37), so the mask of TPA (R213) adds nothing. -/
theorem ccrByte_or_hardwired (f : Ccr) : ccrByte f ||| 0xC0 = ccrByte f := by
  rw [← ccrByte_ccrOfByte, ccrOfByte_ccrByte]

/-- SP and the active index register are written independently. -/
theorem setSp_setIx (s : State) (p v : Word) : (s.setSp p).setIx v = (s.setIx v).setSp p := by
  cases h : s.curIndReg with
  | x => rw [State.setIx_of_x s v h, State.setIx_of_x (s.setSp p) v h]; rfl
  | x2 => rw [State.setIx_of_x2 s v h, State.setIx_of_x2 (s.setSp p) v h]; rfl

/-! ## The next states -/

theorem transferAcc_eq (i : Instr) (hlen : (encode i).length = 1) (src dst : Acc) (s : State) :
    transferAcc src dst s =
      { s.setAcc dst (s.acc src) with ccr := movedFlags8 (s.acc src) s.ccr, pc := nextPc i s } := by
  rw [transferAcc, logic8_eq_movedFlags8, setCcr_advance_eq i hlen (State.setAcc_pc s dst _)]

theorem pushAcc_eq (i : Instr) (hlen : (encode i).length = 1) (r : Acc) (s : State) :
    pushAcc r s = { s with mem := s.mem.write s.sp (s.acc r), sp := s.sp - 1, pc := nextPc i s } :=
  advance_eq i hlen (push8_pc (s.acc r) s)

theorem pullAcc_eq (i : Instr) (hlen : (encode i).length = 1) (r : Acc) (s : State) :
    pullAcc r s = { s.setAcc r (s.mem.read (s.sp + 1)) with sp := s.sp + 1, pc := nextPc i s } := by
  change ((pull8 s).2.setAcc r (pull8 s).1).advance 1 = _
  rw [pull8_fst, pull8_snd, advance_eq i hlen (State.setAcc_pc (s.setSp (s.sp + 1)) r _)]
  cases r <;> rfl

theorem execTpa_eq (s : State) : execTpa s = .next { s with a := ccrByte s.ccr ||| 0xC0, pc := nextPc .tpa s } := by
  rw [ccrByte_or_hardwired]
  rfl

theorem execTsx_eq (s : State) :
    execTsx s = .next { s.setIx (BitVec.ofNat 16 (s.sp.toNat + 1)) with pc := nextPc .tsx s } := by
  have hsp : s.sp + 1 = BitVec.ofNat 16 (s.sp.toNat + 1) := add_eq_ofNat s.sp 1
  rw [execTsx, hsp, advance_eq .tsx (rfl : _ = 1) (State.setIx_pc s _)]

theorem execTxs_eq (s : State) :
    execTxs s = .next { s with sp := BitVec.ofInt 16 ((s.ix.toNat : Int) - 1), pc := nextPc .txs s } := by
  have hix : s.ix - 1 = BitVec.ofInt 16 ((s.ix.toNat : Int) - 1) := sub_eq_ofInt s.ix 1
  rw [execTxs, hix]
  rfl

theorem execPshx_eq (s : State) : execPshx s =
    .next { s with mem := (push16 s.ix s).mem, sp := (push16 s.ix s).sp, pc := nextPc .pshx s } :=
  congrArg Host.Outcome.next (advance_eq .pshx (rfl : _ = 1) (push16_pc s.ix s))

theorem execPulx_eq (s : State) : execPulx s =
    .next { s.setIx (s.mem.read16 (s.sp + 1)) with sp := s.sp + 2, pc := nextPc .pulx s } := by
  rw [execPulx, pull16_fst, pull16_snd, advance_eq .pulx (rfl : _ = 1) (State.setIx_pc (s.setSp _) _), setSp_setIx]
  rfl

/-! ## The obligations -/

/-- Settles O18: TAB and TBA are one operation; TAP is read back through the CCR byte's layout. -/
theorem registerTransfers : Obligations.RegisterTransfers :=
  ⟨⟨row_of_encode rfl rfl rfl, row_of_encode rfl rfl rfl, row_of_encode rfl rfl rfl, row_of_encode rfl rfl rfl,
    row_of_encode rfl rfl rfl, row_of_encode rfl rfl rfl⟩,
   fun s => ⟨congrArg Host.Outcome.next (transferAcc_eq .tab rfl .a .b s),
    congrArg Host.Outcome.next (transferAcc_eq .tba rfl .b .a s), ⟨_, rfl, rfl, ccrByte_ccrOfByte s.a⟩,
    execTpa_eq s, execTsx_eq s, execTxs_eq s⟩⟩

/-- Settles O19: the stores of the pushes are at the old SP, and PSHX leaves the word big-endian above the new one. -/
theorem pushesAndPulls : Obligations.PushesAndPulls :=
  ⟨⟨row_of_encode rfl rfl rfl, row_of_encode rfl rfl rfl, row_of_encode rfl rfl rfl, row_of_encode rfl rfl rfl,
    row_of_encode rfl rfl rfl, row_of_encode rfl rfl rfl⟩,
   fun s => ⟨⟨_, congrArg Host.Outcome.next (pushAcc_eq .psha rfl .a s), rfl, storedByte_of_mem rfl⟩,
    ⟨_, congrArg Host.Outcome.next (pushAcc_eq .pshb rfl .b s), rfl, storedByte_of_mem rfl⟩,
    congrArg Host.Outcome.next (pullAcc_eq .pula rfl .a s),
    congrArg Host.Outcome.next (pullAcc_eq .pulb rfl .b s),
    ⟨_, execPshx_eq s, rfl, push16_pushedWord s.ix s, push16_read16 s.ix s⟩, execPulx_eq s⟩⟩

end Sys2Proof.Proofs
end

section
/-! Arithmetic, logic and compare on an accumulator (42_arith_logic.md R240 to R260): each shared operation as one equation
for the whole next state, and the obligations from these equations. -/

namespace Sys2Proof.Proofs

open Sys2Proof.Machine Sys2Proof.Claims

/-! ## The next states -/

theorem addAcc_eq (i : Instr) {len : Nat} (hlen : (encode i).length = len) (r : Acc) (m : Byte) (cin : Bool) (s : State) :
    addAcc r m cin len s =
      { s.setAcc r (sum8 (s.acc r) m cin.toNat) with
        ccr := sumFlags8 (s.acc r) m cin.toNat s.ccr, pc := nextPc i s } := by
  rw [addAcc, addFlags8_eq_sumFlags8, add8_eq_sum8, setCcr_advance_eq i hlen (State.setAcc_pc s r _)]

theorem subAcc_eq (i : Instr) {len : Nat} (hlen : (encode i).length = len) (r : Acc) (m : Byte) (bin : Bool) (s : State) :
    subAcc r m bin len s =
      { s.setAcc r (dif8 (s.acc r) m bin.toNat) with
        ccr := difFlags8 (s.acc r) m bin.toNat s.ccr, pc := nextPc i s } := by
  rw [subAcc, subFlags8_eq_difFlags8, sub8_eq_dif8, setCcr_advance_eq i hlen (State.setAcc_pc s r _)]

theorem cmpAcc_eq (i : Instr) {len : Nat} (hlen : (encode i).length = len) (r : Acc) (m : Byte) (s : State) :
    cmpAcc r m len s = { s with ccr := difFlags8 (s.acc r) m 0 s.ccr, pc := nextPc i s } := by
  rw [cmpAcc, subFlags8_eq_difFlags8, setCcr_advance_eq i hlen rfl]
  rfl

theorem logicAcc_eq (i : Instr) {len : Nat} (hlen : (encode i).length = len) (op : Byte → Byte → Byte) (r : Acc) (m : Byte)
    (s : State) :
    logicAcc op r m len s =
      { s.setAcc r (op (s.acc r) m) with ccr := movedFlags8 (op (s.acc r) m) s.ccr, pc := nextPc i s } := by
  rw [logicAcc, logic8_eq_movedFlags8, setCcr_advance_eq i hlen (State.setAcc_pc s r _)]

theorem bitAcc_eq (i : Instr) {len : Nat} (hlen : (encode i).length = len) (r : Acc) (m : Byte) (s : State) :
    bitAcc r m len s = { s with ccr := movedFlags8 (s.acc r &&& m) s.ccr, pc := nextPc i s } := by
  rw [bitAcc, logic8_eq_movedFlags8, setCcr_advance_eq i hlen rfl]

/-! ## The obligations -/

/-- Settles O20: one addition on the two accumulators, its carry in 0 or the old C. -/
theorem accumulatorAdditions : Obligations.AccumulatorAdditions :=
  ⟨⟨rows8_of_encode 0x8B (fun _ => rfl) rfl rfl, rows8_of_encode 0xCB (fun _ => rfl) rfl rfl,
    rows8_of_encode 0x89 (fun _ => rfl) rfl rfl, rows8_of_encode 0xC9 (fun _ => rfl) rfl rfl, row_of_encode rfl rfl rfl⟩,
   fun s o =>
    ⟨congrArg Host.Outcome.next (addAcc_eq (.adda o) (length_encode8 _ o) .a (op8 o s) false s),
     congrArg Host.Outcome.next (addAcc_eq (.addb o) (length_encode8 _ o) .b (op8 o s) false s),
     congrArg Host.Outcome.next (addAcc_eq (.adca o) (length_encode8 _ o) .a (op8 o s) s.ccr.c s),
     congrArg Host.Outcome.next (addAcc_eq (.adcb o) (length_encode8 _ o) .b (op8 o s) s.ccr.c s),
     congrArg Host.Outcome.next (addAcc_eq .aba rfl .a s.b false s)⟩⟩

/-- Settles O21: one subtraction on the two accumulators, its borrow in 0 or the old C. -/
theorem accumulatorSubtractions : Obligations.AccumulatorSubtractions :=
  ⟨⟨rows8_of_encode 0x80 (fun _ => rfl) rfl rfl, rows8_of_encode 0xC0 (fun _ => rfl) rfl rfl,
    rows8_of_encode 0x82 (fun _ => rfl) rfl rfl, rows8_of_encode 0xC2 (fun _ => rfl) rfl rfl, row_of_encode rfl rfl rfl⟩,
   fun s o =>
    ⟨congrArg Host.Outcome.next (subAcc_eq (.suba o) (length_encode8 _ o) .a (op8 o s) false s),
     congrArg Host.Outcome.next (subAcc_eq (.subb o) (length_encode8 _ o) .b (op8 o s) false s),
     congrArg Host.Outcome.next (subAcc_eq (.sbca o) (length_encode8 _ o) .a (op8 o s) s.ccr.c s),
     congrArg Host.Outcome.next (subAcc_eq (.sbcb o) (length_encode8 _ o) .b (op8 o s) s.ccr.c s),
     congrArg Host.Outcome.next (subAcc_eq .sba rfl .a s.b false s)⟩⟩

/-- Settles O22: the subtraction without its result. -/
theorem accumulatorCompares : Obligations.AccumulatorCompares :=
  ⟨⟨rows8_of_encode 0x81 (fun _ => rfl) rfl rfl, rows8_of_encode 0xC1 (fun _ => rfl) rfl rfl, row_of_encode rfl rfl rfl⟩,
   fun s o =>
    ⟨congrArg Host.Outcome.next (cmpAcc_eq (.cmpa o) (length_encode8 _ o) .a (op8 o s) s),
     congrArg Host.Outcome.next (cmpAcc_eq (.cmpb o) (length_encode8 _ o) .b (op8 o s) s),
     congrArg Host.Outcome.next (cmpAcc_eq .cba rfl .a s.b s)⟩⟩

/-- Settles O23: the result of each is the bitwise operation on the accumulator and the operand; BIT shares that of AND. -/
theorem logicAndBitTests : Obligations.LogicAndBitTests :=
  ⟨⟨rows8_of_encode 0x84 (fun _ => rfl) rfl rfl, rows8_of_encode 0xC4 (fun _ => rfl) rfl rfl,
    rows8_of_encode 0x85 (fun _ => rfl) rfl rfl, rows8_of_encode 0xC5 (fun _ => rfl) rfl rfl,
    rows8_of_encode 0x88 (fun _ => rfl) rfl rfl, rows8_of_encode 0xC8 (fun _ => rfl) rfl rfl,
    rows8_of_encode 0x8A (fun _ => rfl) rfl rfl, rows8_of_encode 0xCA (fun _ => rfl) rfl rfl⟩,
   fun s o =>
    ⟨⟨s.a &&& op8 o s, fun _ => BitVec.getLsbD_and,
      congrArg Host.Outcome.next (logicAcc_eq (.anda o) (length_encode8 _ o) _ .a (op8 o s) s),
      congrArg Host.Outcome.next (bitAcc_eq (.bita o) (length_encode8 _ o) .a (op8 o s) s)⟩,
     ⟨s.b &&& op8 o s, fun _ => BitVec.getLsbD_and,
      congrArg Host.Outcome.next (logicAcc_eq (.andb o) (length_encode8 _ o) _ .b (op8 o s) s),
      congrArg Host.Outcome.next (bitAcc_eq (.bitb o) (length_encode8 _ o) .b (op8 o s) s)⟩,
     ⟨s.a ^^^ op8 o s, fun _ => BitVec.getLsbD_xor,
      congrArg Host.Outcome.next (logicAcc_eq (.eora o) (length_encode8 _ o) _ .a (op8 o s) s)⟩,
     ⟨s.b ^^^ op8 o s, fun _ => BitVec.getLsbD_xor,
      congrArg Host.Outcome.next (logicAcc_eq (.eorb o) (length_encode8 _ o) _ .b (op8 o s) s)⟩,
     ⟨s.a ||| op8 o s, fun _ => BitVec.getLsbD_or,
      congrArg Host.Outcome.next (logicAcc_eq (.oraa o) (length_encode8 _ o) _ .a (op8 o s) s)⟩,
     ⟨s.b ||| op8 o s, fun _ => BitVec.getLsbD_or,
      congrArg Host.Outcome.next (logicAcc_eq (.orab o) (length_encode8 _ o) _ .b (op8 o s) s)⟩⟩⟩

end Sys2Proof.Proofs
end

section
/-! 16-bit arithmetic (42_arith_logic.md R264 to R272): D = A:B, the active index register and SP. -/

namespace Sys2Proof.Proofs

open Sys2Proof.Machine Sys2Proof.Claims

/-! ## Bits, results and flags as numbers -/

theorem getLsbD_hiByte_top (w : Word) : (hiByte w).getLsbD 7 = w.getLsbD 15 :=
  BitVec.getLsbD_extractLsb' ..

theorem getLsbD_seven_eq_decide (w : Word) : w.getLsbD 7 = decide (128 ≤ w.toNat % 256) := by
  have hlo : (loByte w).getLsbD 7 = w.getLsbD 7 := BitVec.getLsbD_extractLsb' ..
  rw [← hlo, ← toNat_loByte]
  exact BitVec.msb_eq_decide (loByte w)

/-- R266 on the M6800: N and V are those of a compare of the high bytes, C is not written. -/
theorem cpxFlagsM6800_eq (x m : Word) (f : Ccr) :
    cpxFlagsM6800 x m f =
      { difFlags8 (hiByte x) (hiByte m) 0 f with z := decide (x.toNat = m.toNat), c := f.c } := by
  have hsub : hiByte x - hiByte m = sub8 (hiByte x) (hiByte m) false := (BitVec.sub_zero _).symm
  have hflags := subFlags8_eq_difFlags8 (hiByte x) (hiByte m) false f
  have hz : x = m ↔ x.toNat = m.toNat := BitVec.toNat_eq
  rw [Bool.toNat_false] at hflags
  rw [← hflags]
  simp only [cpxFlagsM6800, subFlags8, nz8, hsub, getLsbD_hiByte_top, hz]

/-- No product of two bytes reaches 65,536. -/
theorem toNat_zext16_mul_zext16 (a b : Byte) : (zext16 a * zext16 b).toNat = a.toNat * b.toNat := by
  have hlt : a.toNat * b.toNat < 256 * 256 := Nat.mul_lt_mul'' a.isLt b.isLt
  rw [BitVec.toNat_mul, toNat_zext16, toNat_zext16, Nat.mod_eq_of_lt hlt]

theorem add_one_eq_zero_iff (w : Word) : w + 1 = 0 ↔ (w.toNat + 1) % 65536 = 0 :=
  BitVec.toNat_eq

theorem sub_one_eq_zero_iff (w : Word) : w - 1 = 0 ↔ w.toNat = 1 := by
  bv_omega

/-! ## The next states -/

theorem setD_setCcr_advance_eq (i : Instr) {n : Nat} (hlen : (encode i).length = n) (v : Word) (f : Ccr) (s : State) :
    ((s.setD v).setCcr f).advance n = { s with a := hiByte v, b := loByte v, ccr := f, pc := nextPc i s } :=
  setCcr_advance_eq i hlen (State.setD_pc s v) f

theorem execAddd_eq (o : Operand16) (s : State) : execAddd o s =
    .next { s with a := hiByte (sum16 s.d (op16 o s)), b := loByte (sum16 s.d (op16 o s)),
                   ccr := sumFlags16 s.d (op16 o s) s.ccr, pc := nextPc (.addd o) s } := by
  rw [execAddd, addFlags16_eq_sumFlags16, setD_setCcr_advance_eq (.addd o) (length_encode16 _ o), add_eq_ofNat, sum16]

theorem execSubd_eq (o : Operand16) (s : State) : execSubd o s =
    .next { s with a := hiByte (dif16 s.d (op16 o s)), b := loByte (dif16 s.d (op16 o s)),
                   ccr := difFlags16 s.d (op16 o s) s.ccr, pc := nextPc (.subd o) s } := by
  rw [execSubd, subFlags16_eq_difFlags16, setD_setCcr_advance_eq (.subd o) (length_encode16 _ o), sub_eq_ofInt, dif16]

theorem execCpx_m6803_eq (o : Operand16) {s : State} (hv : s.cfg.variant = .m6803) : execCpx o s =
    .next { s with ccr := difFlags16 s.ix (op16 o s) s.ccr, pc := nextPc (.cpx o) s } := by
  simp only [execCpx, hv, subFlags16_eq_difFlags16, setCcr_advance_eq (.cpx o) (length_encode16 _ o) (rfl : s.pc = s.pc)]

theorem execCpx_m6800_eq (o : Operand16) {s : State} (hv : s.cfg.variant = .m6800) : execCpx o s =
    .next { s with
      ccr := { difFlags8 (hiByte s.ix) (hiByte (op16 o s)) 0 s.ccr with
               z := decide (s.ix.toNat = (op16 o s).toNat), c := s.ccr.c },
      pc := nextPc (.cpx o) s } := by
  simp only [execCpx, hv, cpxFlagsM6800_eq, setCcr_advance_eq (.cpx o) (length_encode16 _ o) (rfl : s.pc = s.pc)]

theorem execMul_eq (s : State) : execMul s =
    .next { s with a := BitVec.ofNat 8 (s.a.toNat * s.b.toNat / 256), b := BitVec.ofNat 8 (s.a.toNat * s.b.toNat),
                   ccr := { s.ccr with c := decide (128 ≤ s.a.toNat * s.b.toNat % 256) }, pc := nextPc .mul s } := by
  simp only [execMul, setD_setCcr_advance_eq .mul (rfl : _ = 1), hiByte_eq_ofNat, loByte_eq_ofNat, getLsbD_seven_eq_decide,
    toNat_zext16_mul_zext16]

theorem stepIx_eq (i : Instr) (hlen : (encode i).length = 1) (v : Word) (s : State) :
    stepIx v s = { s.setIx v with ccr := { s.ccr with z := decide (v = 0) }, pc := nextPc i s } :=
  setCcr_advance_eq i hlen (State.setIx_pc s v) _

theorem execInx_eq (s : State) : execInx s =
    .next { s.setIx (BitVec.ofNat 16 (s.ix.toNat + 1)) with
      ccr := { s.ccr with z := decide ((s.ix.toNat + 1) % 65536 = 0) }, pc := nextPc .inx s } := by
  have hix : s.ix + 1 = BitVec.ofNat 16 (s.ix.toNat + 1) := add_eq_ofNat s.ix 1
  simp only [execInx, stepIx_eq .inx rfl, add_one_eq_zero_iff, ← hix]

theorem execDex_eq (s : State) : execDex s =
    .next { s.setIx (BitVec.ofInt 16 ((s.ix.toNat : Int) - 1)) with
      ccr := { s.ccr with z := decide (s.ix.toNat = 1) }, pc := nextPc .dex s } := by
  have hix : s.ix - 1 = BitVec.ofInt 16 ((s.ix.toNat : Int) - 1) := sub_eq_ofInt s.ix 1
  simp only [execDex, stepIx_eq .dex rfl, sub_one_eq_zero_iff, ← hix]

theorem execIns_eq (s : State) :
    execIns s = .next { s with sp := BitVec.ofNat 16 (s.sp.toNat + 1), pc := nextPc .ins s } := by
  have hsp : s.sp + 1 = BitVec.ofNat 16 (s.sp.toNat + 1) := add_eq_ofNat s.sp 1
  rw [execIns, hsp]
  rfl

theorem execDes_eq (s : State) :
    execDes s = .next { s with sp := BitVec.ofInt 16 ((s.sp.toNat : Int) - 1), pc := nextPc .des s } := by
  have hsp : s.sp - 1 = BitVec.ofInt 16 ((s.sp.toNat : Int) - 1) := sub_eq_ofInt s.sp 1
  rw [execDes, hsp]
  rfl

theorem execAbx_eq (s : State) :
    execAbx s = .next { s.setIx (BitVec.ofNat 16 (s.ix.toNat + s.b.toNat)) with pc := nextPc .abx s } := by
  rw [execAbx, add_eq_ofNat, toNat_zext16, advance_eq .abx (rfl : _ = 1) (State.setIx_pc s _)]

/-! ## The obligations -/

/-- Settles O26: both are operations on the word D. -/
theorem wordAddAndSubtract : Obligations.WordAddAndSubtract :=
  ⟨rows16_of_encode 0xC3 fun _ => rfl, rows16_of_encode 0x83 fun _ => rfl, fun s o =>
    ⟨s.d, (toNat_joinBytes s.a s.b).trans (by rw [Nat.mul_comm]), execAddd_eq o s, execSubd_eq o s⟩⟩

/-- Settles O27: the flags of the full difference on the M6803, and those of the high bytes on the M6800. -/
theorem compareIndexRegister : Obligations.CompareIndexRegister :=
  ⟨rows16_of_encode 0x8C fun _ => rfl, fun _ o => ⟨execCpx_m6803_eq o, execCpx_m6800_eq o⟩⟩

/-- Settles O28: the product of two bytes fits D. -/
theorem multiplyAccumulators : Obligations.MultiplyAccumulators :=
  ⟨row_of_encode rfl rfl rfl, execMul_eq⟩

/-- Settles O29: INX and DEX are one operation that writes Z; the three others write no flag. -/
theorem indexAndStackArithmetic : Obligations.IndexAndStackArithmetic :=
  ⟨⟨row_of_encode rfl rfl rfl, row_of_encode rfl rfl rfl, row_of_encode rfl rfl rfl, row_of_encode rfl rfl rfl,
    row_of_encode rfl rfl rfl⟩,
   fun s => ⟨execInx_eq s, execDex_eq s, execIns_eq s, execDes_eq s, execAbx_eq s⟩⟩

end Sys2Proof.Proofs
end

section
/-! Read-modify-write and shifts (43_rmw_shift.md R301 to R335): each operation function as its result and flags in numbers,
each shared form as one equation for the whole next state, and the obligations from these equations. -/

namespace Sys2Proof.Proofs

open Sys2Proof.Machine Sys2Proof.Claims

/-! ## Shifts as numbers -/

theorem getLsbD_bottom_eq_decide {w : Nat} (x : BitVec w) : x.getLsbD 0 = decide (x.toNat % 2 = 1) :=
  Nat.testBit_zero x.toNat

theorem getLsbD_top_eq_decide {n : Nat} (x : BitVec (n + 1)) : x.getLsbD n = decide (2 ^ n ≤ x.toNat) :=
  (BitVec.msb_eq_getLsbD_last x).symm.trans (BitVec.msb_eq_decide x)

theorem toNat_shiftLeft_one {w : Nat} (x : BitVec w) : (x <<< 1).toNat = 2 * x.toNat % 2 ^ w := by
  rw [BitVec.toNat_shiftLeft, Nat.shiftLeft_eq, pow_one, Nat.mul_comm]

theorem toNat_ushiftRight_one {w : Nat} (x : BitVec w) : (x >>> 1).toNat = x.toNat / 2 := by
  rw [BitVec.toNat_ushiftRight, Nat.shiftRight_eq_div_pow, pow_one]

theorem shiftLeft_one_eq_ofNat {w : Nat} (x : BitVec w) : x <<< 1 = BitVec.ofNat w (2 * x.toNat) := by
  apply BitVec.eq_of_toNat_eq
  rw [toNat_shiftLeft_one, BitVec.toNat_ofNat]

theorem ushiftRight_one_eq_ofNat {w : Nat} (x : BitVec w) : x >>> 1 = BitVec.ofNat w (x.toNat / 2) := by
  rw [← toNat_ushiftRight_one, BitVec.ofNat_toNat, BitVec.setWidth_eq]

/-- The carry in at bit 7 does not meet the operand's seven bits. -/
theorem rotateRight_eq_ofNat (m : Byte) (c : Bool) :
    carryIn8 c <<< 7 ||| m >>> 1 = BitVec.ofNat 8 (128 * c.toNat + m.toNat / 2) := by
  have hm := m.isLt
  have hc := c.toNat_le
  have htop : (carryIn8 c <<< 7).toNat = 2 ^ 7 * c.toNat := by cases c <;> rfl
  have hlow : (m >>> 1).toNat < 2 ^ 7 := by rw [toNat_ushiftRight_one]; omega
  apply BitVec.eq_of_toNat_eq
  rw [BitVec.toNat_or, htop, ← Nat.two_pow_add_eq_or_of_lt hlow, toNat_ushiftRight_one, BitVec.toNat_ofNat,
    Nat.mod_eq_of_lt (by omega)]

/-- The carry in at bit 0 meets the zero that the shift leaves there. -/
theorem rotateLeft_eq_ofNat (m : Byte) (c : Bool) :
    m <<< 1 ||| carryIn8 c = BitVec.ofNat 8 (2 * m.toNat + c.toNat) := by
  have hc : c.toNat < 2 ^ 1 := c.toNat_lt
  have hin : (carryIn8 c).toNat = c.toNat := by cases c <;> rfl
  have htop : (m <<< 1).toNat = 2 ^ 1 * (m.toNat % 128) := by rw [toNat_shiftLeft_one]; omega
  apply BitVec.eq_of_toNat_eq
  rw [BitVec.toNat_or, hin, htop, ← Nat.two_pow_add_eq_or_of_lt hc, BitVec.toNat_ofNat]
  omega

/-- R294 keeps bit 7, as a signed shift does. -/
theorem and_or_ushiftRight_one_eq_sshiftRight (m : Byte) : (m &&& 0x80) ||| (m >>> 1) = m.sshiftRight 1 := by
  show (m &&& BitVec.twoPow 8 7) ||| (m >>> 1) = m.sshiftRight 1
  apply BitVec.eq_of_getLsbD_eq
  intro i hi
  rw [BitVec.getLsbD_or, BitVec.getLsbD_and, BitVec.getLsbD_twoPow, BitVec.getLsbD_ushiftRight, BitVec.getLsbD_sshiftRight]
  obtain rfl | h7 := eq_or_ne i 7
  · simp [BitVec.msb_eq_getLsbD_last]
  · have hnext : 1 + i < 8 := by omega
    simp [h7.symm, hi, hnext]

/-- The shift rounds down. -/
theorem sshiftRight_one_eq_ofInt {w : Nat} (x : BitVec w) : x.sshiftRight 1 = BitVec.ofInt w (x.toInt / 2) := by
  rw [← BitVec.ofInt_toInt (x := x.sshiftRight 1), BitVec.toInt_sshiftRight, Int.shiftRight_eq_div_pow]
  rfl

/-- R168: V is N xor C. -/
theorem shiftFlags8_eq_shifted8 (out : Bool) (r : Byte) (f : Ccr) : shiftFlags8 out r f = shifted8 out r f := by
  rw [shiftFlags8, shifted8, nz8_eq_signZero8]
  rfl

theorem shiftFlags16_eq_shifted16 (out : Bool) (r : Word) (f : Ccr) : shiftFlags16 out r f = shifted16 out r f := by
  rw [shiftFlags16, shifted16, nz16_eq_signZero16]
  rfl

/-! ## The operation functions (R290 to R300) -/

theorem negOp_eq (m : Byte) (f : Ccr) : negOp m f =
    (BitVec.ofInt 8 (-(m.toNat : Int)),
      { signZero8 (BitVec.ofInt 8 (-(m.toNat : Int))) f with v := decide (m.toNat = 128), c := decide (m.toNat ≠ 0) }) := by
  have hr : 0 - m = BitVec.ofInt 8 (-(m.toNat : Int)) := by
    rw [BitVec.ofInt_neg, BitVec.ofInt_natCast, BitVec.ofNat_toNat, BitVec.setWidth_eq]
    exact BitVec.zero_sub m
  have hv : 0 - m = 0x80 ↔ m.toNat = 128 := by bv_omega
  have hc : 0 - m ≠ 0 ↔ m.toNat ≠ 0 := by bv_omega
  simp only [negOp, nz8_eq_signZero8, hv, hc, ← hr]

theorem comOp_eq (m : Byte) (f : Ccr) : comOp m f =
    (BitVec.ofNat 8 (255 - m.toNat), { signZero8 (BitVec.ofNat 8 (255 - m.toNat)) f with v := false, c := true }) := by
  have hr : 0xFF ^^^ m = BitVec.ofNat 8 (255 - m.toNat) := by
    have hnot : 0xFF ^^^ m = ~~~m := BitVec.allOnes_xor
    have hnat : (~~~m).toNat = 255 - m.toNat := BitVec.toNat_not
    rw [hnot, ← hnat, BitVec.ofNat_toNat, BitVec.setWidth_eq]
  simp only [comOp, nz8_eq_signZero8, hr]

/-- R292's N is bit 7 of the result. -/
theorem lsrOp_eq (m : Byte) (f : Ccr) : lsrOp m f =
    (BitVec.ofNat 8 (m.toNat / 2), shifted8 (decide (m.toNat % 2 = 1)) (BitVec.ofNat 8 (m.toNat / 2)) f) := by
  have hn : false = (m >>> 1).getLsbD 7 := (BitVec.msb_ushiftRight (x := m) (n := 1)).symm
  rw [lsrOp, hn, ← ushiftRight_one_eq_ofNat, ← shiftFlags8_eq_shifted8, ← getLsbD_bottom_eq_decide]
  rfl

theorem rorOp_eq (m : Byte) (f : Ccr) : rorOp m f =
    (BitVec.ofNat 8 (128 * f.c.toNat + m.toNat / 2),
      shifted8 (decide (m.toNat % 2 = 1)) (BitVec.ofNat 8 (128 * f.c.toNat + m.toNat / 2)) f) := by
  rw [rorOp, rotateRight_eq_ofNat, shiftFlags8_eq_shifted8, getLsbD_bottom_eq_decide]

theorem asrOp_eq (m : Byte) (f : Ccr) : asrOp m f =
    (BitVec.ofInt 8 (m.toInt / 2), shifted8 (decide (m.toNat % 2 = 1)) (BitVec.ofInt 8 (m.toInt / 2)) f) := by
  rw [asrOp, and_or_ushiftRight_one_eq_sshiftRight, sshiftRight_one_eq_ofInt, shiftFlags8_eq_shifted8,
    getLsbD_bottom_eq_decide]

theorem aslOp_eq (m : Byte) (f : Ccr) : aslOp m f =
    (BitVec.ofNat 8 (2 * m.toNat), shifted8 (decide (128 ≤ m.toNat)) (BitVec.ofNat 8 (2 * m.toNat)) f) := by
  rw [aslOp, shiftLeft_one_eq_ofNat, shiftFlags8_eq_shifted8, getLsbD_top_eq_decide]
  rfl

theorem rolOp_eq (m : Byte) (f : Ccr) : rolOp m f =
    (BitVec.ofNat 8 (2 * m.toNat + f.c.toNat),
      shifted8 (decide (128 ≤ m.toNat)) (BitVec.ofNat 8 (2 * m.toNat + f.c.toNat)) f) := by
  rw [rolOp, rotateLeft_eq_ofNat, shiftFlags8_eq_shifted8, getLsbD_top_eq_decide]
  rfl

theorem decOp_eq (m : Byte) (f : Ccr) :
    decOp m f = (dif8 m 1 0, { signZero8 (dif8 m 1 0) f with v := decide (m.toInt = -128) }) := by
  have hr : m - 1 = dif8 m 1 0 := (BitVec.sub_zero (m - 1)).symm.trans (sub8_eq_dif8 m 1 false)
  have hv : m = 0x80 ↔ m.toInt = -128 := BitVec.toInt_inj.symm
  simp only [decOp, nz8_eq_signZero8, hr, hv]

theorem incOp_eq (m : Byte) (f : Ccr) :
    incOp m f = (sum8 m 1 0, { signZero8 (sum8 m 1 0) f with v := decide (m.toInt = 127) }) := by
  have hr : m + 1 = sum8 m 1 0 := (BitVec.add_zero (m + 1)).symm.trans (add8_eq_sum8 m 1 false)
  have hv : m = 0x7F ↔ m.toInt = 127 := BitVec.toInt_inj.symm
  simp only [incOp, nz8_eq_signZero8, hr, hv]

theorem tstOp_eq (m : Byte) (f : Ccr) : tstOp m f = (m, { movedFlags8 m f with c := false }) := by
  rw [tstOp, nz8_eq_signZero8, movedFlags8]

/-! ## The forms of an operation -/

/-- The encodings of the single-operand group, `base` the opcode of the A row: bits 5:4 of the opcode are the form (R111). -/
def SingleOperandEncodings (base : Byte) (ia ib : Instr) (im : IndExt → Instr) : Prop :=
  encode ia = [base] ∧ encode ib = [base ||| 0x10] ∧ ∀ m, encode (im m) = encodeIndExt base m

/-- The four columns are here those of A, B, IND and EXT. -/
theorem rowsRmw_of_encodings {base : Byte} {ia ib : Instr} {im : IndExt → Instr}
    (h : SingleOperandEncodings base ia ib im) (h0 : columnCycles .m6800 base = ⟨some 2, some 2, some 7, some 6⟩)
    (h3 : columnCycles .m6803 base = ⟨some 2, some 2, some 6, some 6⟩) :
    RowsRmw ia ib im base (base ||| 0x10) (base ||| 0x20) (base ||| 0x30) := by
  obtain ⟨ha, hb, hm⟩ := h
  obtain ⟨a0, b0, ind0, ext0⟩ := ModeCycles.mk.inj h0
  obtain ⟨a3, b3, ind3, ext3⟩ := ModeCycles.mk.inj h3
  exact ⟨row_of_encode ha a0 a3, row_of_encode hb b0 b3, fun b w =>
    ⟨row_of_encode (hm (.ind b)) ind0 ind3, row_of_encode (hm (.ext w)) ext0 ext3⟩⟩

theorem length_encodeIndExt (base : Byte) (m : IndExt) : (encodeIndExt base m).length = memLen (indExtMem m) := by
  cases m <;> rfl

theorem rmwAcc_eq (i : Instr) (hlen : (encode i).length = 1) (op : Byte → Ccr → Byte × Ccr) (r : Acc) (s : State) :
    rmwAcc op r s =
      { s.setAcc r (op (s.acc r) s.ccr).1 with ccr := (op (s.acc r) s.ccr).2, pc := nextPc i s } :=
  setCcr_advance_eq i hlen (State.setAcc_pc s r _) _

theorem rmwMem_eq (i : Instr) {m : IndExt} (hlen : (encode i).length = memLen (indExtMem m))
    (op : Byte → Ccr → Byte × Ccr) (s : State) :
    rmwMem op m s =
      { s with mem := s.mem.write (ea (indExtMem m) s) (op (s.mem.read (ea (indExtMem m) s)) s.ccr).1,
               ccr := (op (s.mem.read (ea (indExtMem m) s)) s.ccr).2, pc := nextPc i s } :=
  setCcr_advance_eq i hlen (State.store8_pc s _ _) _

/-- What the three forms do follows from what the operation function gives. -/
theorem rmwForms_of_op {base : Byte} {ia ib : Instr} {im : IndExt → Instr} {op : Byte → Ccr → Byte × Ccr}
    {res : Byte → Ccr → Byte} {flags : Byte → Ccr → Ccr} (henc : SingleOperandEncodings base ia ib im)
    (ha : ∀ s, exec ia s = .next (rmwAcc op .a s)) (hb : ∀ s, exec ib s = .next (rmwAcc op .b s))
    (hm : ∀ m s, exec (im m) s = .next (rmwMem op m s)) (hop : ∀ m f, op m f = (res m f, flags m f)) :
    RmwForms ia ib im res flags := by
  obtain ⟨hia, hib, him⟩ := henc
  intro s
  refine ⟨?_, ?_, fun m => ⟨_, hm m s, ?_⟩⟩
  · rw [ha, rmwAcc_eq ia (by rw [hia]; rfl), hop]
    rfl
  · rw [hb, rmwAcc_eq ib (by rw [hib]; rfl), hop]
    rfl
  · rw [rmwMem_eq (im m) (by rw [him, length_encodeIndExt]), hop]
    exact ⟨rfl, storedByte_of_mem rfl⟩

theorem setCcr_tstOp_advance_eq (i : Instr) {n : Nat} (hlen : (encode i).length = n) (v : Byte) (s : State) :
    (s.setCcr (tstOp v s.ccr).2).advance n =
      { s with ccr := { movedFlags8 v s.ccr with c := false }, pc := nextPc i s } := by
  rw [setCcr_advance_eq i hlen rfl, tstOp_eq]

theorem shiftD_eq (i : Instr) (hlen : (encode i).length = 1) (r : Word) (out : Bool) (s : State) :
    shiftD r out s =
      { s with a := hiByte r, b := loByte r, ccr := shifted16 out r s.ccr, pc := nextPc i s } := by
  rw [shiftD, setD_setCcr_advance_eq i hlen, shiftFlags16_eq_shifted16]

theorem execAsld_eq (s : State) : execAsld s =
    .next { s with a := hiByte (s.d <<< 1), b := loByte (s.d <<< 1),
                   ccr := shifted16 (decide (32768 ≤ s.d.toNat)) (s.d <<< 1) s.ccr, pc := nextPc .asld s } := by
  rw [execAsld, shiftD_eq .asld rfl, getLsbD_top_eq_decide]
  rfl

theorem execLsrd_eq (s : State) : execLsrd s =
    .next { s with a := hiByte (s.d >>> 1), b := loByte (s.d >>> 1),
                   ccr := shifted16 (decide (s.d.toNat % 2 = 1)) (s.d >>> 1) s.ccr, pc := nextPc .lsrd s } := by
  rw [execLsrd, shiftD_eq .lsrd rfl, getLsbD_bottom_eq_decide]

/-! ## The obligations -/

/-- Settles O30: NEG, COM and CLR are one form each on the operation's result and flags; TST writes its flags alone. -/
theorem negateComplementTestClear : Obligations.NegateComplementTestClear :=
  ⟨⟨rowsRmw_of_encodings ⟨rfl, rfl, fun _ => rfl⟩ rfl rfl, rowsRmw_of_encodings ⟨rfl, rfl, fun _ => rfl⟩ rfl rfl,
    rowsRmw_of_encodings ⟨rfl, rfl, fun _ => rfl⟩ rfl rfl, rowsRmw_of_encodings ⟨rfl, rfl, fun _ => rfl⟩ rfl rfl⟩,
   rmwForms_of_op ⟨rfl, rfl, fun _ => rfl⟩ (fun _ => rfl) (fun _ => rfl) (fun _ _ => rfl) negOp_eq,
   rmwForms_of_op ⟨rfl, rfl, fun _ => rfl⟩ (fun _ => rfl) (fun _ => rfl) (fun _ _ => rfl) comOp_eq,
   rmwForms_of_op ⟨rfl, rfl, fun _ => rfl⟩ (fun _ => rfl) (fun _ => rfl) (fun _ _ => rfl) fun _ _ => rfl,
   fun s =>
    ⟨congrArg Host.Outcome.next (setCcr_tstOp_advance_eq .tsta rfl s.a s),
     congrArg Host.Outcome.next (setCcr_tstOp_advance_eq .tstb rfl s.b s),
     fun m => congrArg Host.Outcome.next (setCcr_tstOp_advance_eq (.tst m) (length_encodeIndExt _ m) _ s)⟩⟩

/-- Settles O31: ASR is the signed shift, and ROR puts the old C into the bit that LSR leaves 0. -/
theorem shiftsRight : Obligations.ShiftsRight :=
  ⟨⟨rowsRmw_of_encodings ⟨rfl, rfl, fun _ => rfl⟩ rfl rfl, rowsRmw_of_encodings ⟨rfl, rfl, fun _ => rfl⟩ rfl rfl,
    rowsRmw_of_encodings ⟨rfl, rfl, fun _ => rfl⟩ rfl rfl⟩,
   rmwForms_of_op ⟨rfl, rfl, fun _ => rfl⟩ (fun _ => rfl) (fun _ => rfl) (fun _ _ => rfl) lsrOp_eq,
   rmwForms_of_op ⟨rfl, rfl, fun _ => rfl⟩ (fun _ => rfl) (fun _ => rfl) (fun _ _ => rfl) rorOp_eq,
   rmwForms_of_op ⟨rfl, rfl, fun _ => rfl⟩ (fun _ => rfl) (fun _ => rfl) (fun _ _ => rfl) asrOp_eq⟩

/-- Settles O32: ROL puts the old C into the bit that ASL leaves 0. -/
theorem shiftsLeft : Obligations.ShiftsLeft :=
  ⟨⟨rowsRmw_of_encodings ⟨rfl, rfl, fun _ => rfl⟩ rfl rfl, rowsRmw_of_encodings ⟨rfl, rfl, fun _ => rfl⟩ rfl rfl⟩,
   rmwForms_of_op ⟨rfl, rfl, fun _ => rfl⟩ (fun _ => rfl) (fun _ => rfl) (fun _ _ => rfl) aslOp_eq,
   rmwForms_of_op ⟨rfl, rfl, fun _ => rfl⟩ (fun _ => rfl) (fun _ => rfl) (fun _ _ => rfl) rolOp_eq⟩

/-- Settles O33: a byte is -128 or 127 as a signed number exactly when it is 0x80 or 0x7F. -/
theorem incrementAndDecrement : Obligations.IncrementAndDecrement :=
  ⟨⟨rowsRmw_of_encodings ⟨rfl, rfl, fun _ => rfl⟩ rfl rfl, rowsRmw_of_encodings ⟨rfl, rfl, fun _ => rfl⟩ rfl rfl⟩,
   rmwForms_of_op ⟨rfl, rfl, fun _ => rfl⟩ (fun _ => rfl) (fun _ => rfl) (fun _ _ => rfl) decOp_eq,
   rmwForms_of_op ⟨rfl, rfl, fun _ => rfl⟩ (fun _ => rfl) (fun _ => rfl) (fun _ _ => rfl) incOp_eq⟩

/-- Settles O34: both are shifts of the word D by one bit. -/
theorem wordShifts : Obligations.WordShifts :=
  ⟨row_of_encode rfl rfl rfl, row_of_encode rfl rfl rfl, fun s =>
    ⟨s.d, s.d <<< 1, s.d >>> 1, (toNat_joinBytes s.a s.b).trans (by rw [Nat.mul_comm]), toNat_shiftLeft_one s.d,
      toNat_ushiftRight_one s.d, execAsld_eq s, execLsrd_eq s⟩⟩

end Sys2Proof.Proofs
end

section
/-! Control flow (44_control_flow.md R340 to R360): a branch writes PC alone, and a call is a push of the address of the next
instruction and a jump, which RTS undoes. -/

namespace Sys2Proof.Proofs

open Sys2Proof.Machine Sys2Proof.Claims

/-! ## Branches -/

/-- R147: the displacement is signed, and the sum wraps. -/
theorem relTarget_eq_ofInt (rel : Byte) (s : State) :
    relTarget rel s = BitVec.ofInt 16 (s.pc.toNat + 2 + rel.toInt) := by
  apply BitVec.eq_of_toNat_eq
  rw [BitVec.toNat_ofInt, ← Int.toNat_natCast (relTarget rel s).toNat, toNat_relTarget]
  rfl

/-- R340: `Branch(c)` as one equation for the whole next state. -/
theorem branch_eq (k : Cond) (rel : Byte) (s : State) : branch k rel s = { s with
    pc := if condHolds k s.ccr then BitVec.ofInt 16 (s.pc.toNat + 2 + rel.toInt)
          else BitVec.ofNat 16 (s.pc.toNat + 2) } := by
  have hnext : s.pc + BitVec.ofNat 16 2 = BitVec.ofNat 16 (s.pc.toNat + 2) := add_eq_ofNat s.pc 2
  rw [branch, relTarget_eq_ofInt, State.advance, hnext]
  cases condHolds k s.ccr <;> rfl

/-- An instruction that is `Branch(k)` branches on the flags that `k` reads. -/
theorem branchWhen_of_branch {i : Byte → Instr} {op : Byte} {c0 : Option Nat} {taken : Ccr → Bool} (k : Cond)
    (henc : ∀ rel, encode (i rel) = [op, rel]) (h0 : opcodeCycles .m6800 op = c0)
    (h3 : opcodeCycles .m6803 op = some 3) (hexec : ∀ rel s, exec (i rel) s = .next (branch k rel s))
    (hk : ∀ f, condHolds k f = taken f) : BranchWhen i op c0 taken :=
  ⟨fun rel => row_of_encode (henc rel) h0 h3, fun s rel => by rw [hexec, branch_eq, hk]⟩

/-- R169: N xor V is clear exactly when N and V are equal. -/
theorem condHolds_ge (f : Ccr) : condHolds .ge f = (f.n == f.v) := Bool.not_not (f.n == f.v)

theorem condHolds_gt (f : Ccr) : condHolds .gt f = (f.z == false && f.n == f.v) := by
  rw [← condHolds_ge, beq_false]
  exact Bool.not_or f.z (f.n ^^ f.v)

/-! ## Calls and returns -/

theorem execRts_eq (s : State) :
    execRts s = .next { s with pc := s.mem.read16 (s.sp + 1), sp := s.sp + 2 } := by
  have hpull : pull16 s = (s.mem.read16 (s.sp + 1), s.setSp (s.sp + 2)) := Prod.ext (pull16_fst s) (pull16_snd s)
  rw [execRts, hpull]
  rfl

/-- RTS pulls the address that a call pushed, wherever the call went. -/
theorem execRts_push16_setPc (v target : Word) (s : State) :
    execRts ((push16 v s).setPc target) = .next { s with mem := (push16 v s).mem, pc := v } := by
  have hpc : execRts ((push16 v s).setPc target) = execRts (push16 v s) := rfl
  rw [hpc, execRts, pull16_push16]
  rfl

/-- What a call leaves, and that RTS right after it resumes at the next instruction. -/
theorem call_spec {i : Instr} {s : State} (target : Word)
    (hexec : exec i s = .next ((push16 (nextPc i s) s).setPc target)) :
    ∃ t, exec i s = .next t ∧ t = { s with mem := t.mem, sp := t.sp, pc := target } ∧
      PushedWord s t (nextPc i s) ∧ exec .rts t = .next { s with mem := t.mem, pc := nextPc i s } :=
  ⟨_, hexec, rfl, push16_pushedWord (nextPc i s) s, execRts_push16_setPc (nextPc i s) target s⟩

theorem execBsr_eq (rel : Byte) (s : State) : execBsr rel s =
    .next ((push16 (nextPc (.bsr rel) s) s).setPc (BitVec.ofInt 16 (s.pc.toNat + 2 + rel.toInt))) := by
  rw [← relTarget_eq_ofInt]
  rfl

theorem execJsr_eq (m : MemOperand) (s : State) :
    execJsr m s = .next ((push16 (nextPc (.jsr m) s) s).setPc (ea m s)) := by
  have hlen : (encode (.jsr m)).length = memLen m := length_encodeMem 0x8D m
  rw [nextPc, hlen]
  rfl

/-! ## The obligations -/

/-- Settles O35: each is `Branch` on its condition; "clear" is the negation of the flag. -/
theorem branchesOnCarryAndZero : Obligations.BranchesOnCarryAndZero :=
  ⟨branchWhen_of_branch .ra (fun _ => rfl) rfl rfl (fun _ _ => rfl) fun _ => rfl,
   branchWhen_of_branch .rn (fun _ => rfl) rfl rfl (fun _ _ => rfl) fun _ => rfl,
   branchWhen_of_branch .hi (fun _ => rfl) rfl rfl (fun _ _ => rfl) fun _ => (beq_false _).symm,
   branchWhen_of_branch .ls (fun _ => rfl) rfl rfl (fun _ _ => rfl) fun _ => rfl,
   branchWhen_of_branch .cc (fun _ => rfl) rfl rfl (fun _ _ => rfl) fun _ => (beq_false _).symm,
   branchWhen_of_branch .cs (fun _ => rfl) rfl rfl (fun _ _ => rfl) fun _ => rfl,
   branchWhen_of_branch .ne (fun _ => rfl) rfl rfl (fun _ _ => rfl) fun _ => (beq_false _).symm,
   branchWhen_of_branch .eq (fun _ => rfl) rfl rfl (fun _ _ => rfl) fun _ => rfl⟩

/-- Settles O36: each is `Branch` on its condition; the signed comparisons compare N with V. -/
theorem branchesOnSignAndOverflow : Obligations.BranchesOnSignAndOverflow :=
  ⟨branchWhen_of_branch .vc (fun _ => rfl) rfl rfl (fun _ _ => rfl) fun _ => (beq_false _).symm,
   branchWhen_of_branch .vs (fun _ => rfl) rfl rfl (fun _ _ => rfl) fun _ => rfl,
   branchWhen_of_branch .pl (fun _ => rfl) rfl rfl (fun _ _ => rfl) fun _ => (beq_false _).symm,
   branchWhen_of_branch .mi (fun _ => rfl) rfl rfl (fun _ _ => rfl) fun _ => rfl,
   branchWhen_of_branch .ge (fun _ => rfl) rfl rfl (fun _ _ => rfl) condHolds_ge,
   branchWhen_of_branch .lt (fun _ => rfl) rfl rfl (fun _ _ => rfl) fun _ => rfl,
   branchWhen_of_branch .gt (fun _ => rfl) rfl rfl (fun _ _ => rfl) condHolds_gt,
   branchWhen_of_branch .le (fun _ => rfl) rfl rfl (fun _ _ => rfl) fun _ => rfl⟩

/-- Settles O37: BSR and JSR are one call with two targets; the IMM column of JSR's group is BSR's opcode. -/
theorem jumpsAndSubroutines : Obligations.JumpsAndSubroutines :=
  ⟨⟨fun _ => row_of_encode rfl rfl rfl, fun _ _ => ⟨row_of_encode rfl rfl rfl, row_of_encode rfl rfl rfl⟩,
    fun b w => rowsMem_of_encode 0x8D (fun _ => rfl) b w, row_of_encode rfl rfl rfl⟩,
   fun s => ⟨fun _ => rfl, execRts_eq s, fun rel => call_spec _ (execBsr_eq rel s),
    fun m => call_spec _ (execJsr_eq m s)⟩⟩

end Sys2Proof.Proofs
end

section
/-! The condition-code instructions and NOP (45_ccr_system.md R380 to R386): one bit of the CCR byte, and PC. -/

namespace Sys2Proof.Proofs

open Sys2Proof.Machine Sys2Proof.Claims

/-! ## One bit of the byte -/

theorem and_or_eq_or_and_or {w : Nat} (x y z : BitVec w) : x &&& y ||| z = (x ||| z) &&& (y ||| z) := by
  ext k hk
  simp only [BitVec.getElem_or, BitVec.getElem_and, Bool.or_and_distrib_right]

/-- A mask that keeps the hardwired bits 7 and 6 (10_state.md R37) clears flags, and no other bit of the byte. -/
theorem ccrByte_eq_and_of_ccrOfByte {f g : Ccr} {mask : Byte} (hmask : mask ||| 0xC0 = mask)
    (hg : ccrOfByte (ccrByte f &&& mask) = g) : ccrByte g = ccrByte f &&& mask := by
  rw [← hg, ccrByte_ccrOfByte, and_or_eq_or_and_or, ccrByte_or_hardwired, hmask]

theorem ccrByte_eq_or_of_ccrOfByte {f g : Ccr} {mask : Byte} (hg : ccrOfByte (ccrByte f ||| mask) = g) :
    ccrByte g = ccrByte f ||| mask := by
  rw [← hg, ccrByte_ccrOfByte, BitVec.or_assoc, BitVec.or_comm mask, ← BitVec.or_assoc, ccrByte_or_hardwired]

/-! ## The next state -/

/-- An instruction of one byte that writes the CCR alone. -/
theorem writeCcr_spec {i : Instr} {s : State} {g : Ccr} {byte : Byte} (hlen : (encode i).length = 1)
    (hexec : exec i s = .next ((s.setCcr g).advance 1)) (hbyte : ccrByte g = byte) :
    ∃ t, exec i s = .next t ∧ t = { s with ccr := t.ccr, pc := nextPc i s } ∧ ccrByte t.ccr = byte := by
  rw [setCcr_advance_eq i hlen rfl] at hexec
  exact ⟨_, hexec, rfl, hbyte⟩

/-! ## The obligation -/

/-- Settles O38: each instruction clears or sets its flag, which is one bit of the byte. -/
theorem conditionCodeInstructions : Obligations.ConditionCodeInstructions := by
  refine ⟨⟨row_of_encode rfl rfl rfl, row_of_encode rfl rfl rfl, row_of_encode rfl rfl rfl, row_of_encode rfl rfl rfl,
    row_of_encode rfl rfl rfl, row_of_encode rfl rfl rfl, row_of_encode rfl rfl rfl⟩, fun s =>
    ⟨writeCcr_spec rfl rfl (ccrByte_eq_and_of_ccrOfByte rfl ?clc), writeCcr_spec rfl rfl (ccrByte_eq_or_of_ccrOfByte ?sec),
     writeCcr_spec rfl rfl (ccrByte_eq_and_of_ccrOfByte rfl ?clv), writeCcr_spec rfl rfl (ccrByte_eq_or_of_ccrOfByte ?sev),
     writeCcr_spec rfl rfl (ccrByte_eq_and_of_ccrOfByte rfl ?cli), writeCcr_spec rfl rfl (ccrByte_eq_or_of_ccrOfByte ?sei),
     rfl⟩⟩
  all_goals simp [ccrOfByte]

end Sys2Proof.Proofs
end

section
/-! SWI and RTI (45_ccr_system.md R390, R392) over the context frame of 60_exceptions.md R432: the frame as seven bytes of
memory, and that pulling a frame gives back the registers it was pushed from, whatever else has changed since. -/

namespace Sys2Proof.Proofs

open Sys2Proof.Machine Sys2Proof.Claims

/-! ## The frame -/

/-- The seven addresses are distinct, so no byte of the frame overwrites another. -/
theorem pushContext_framePushed (ret : Word) (s : State) : FramePushed s (pushContext ret s) ret := by
  have hsp (k : Word) : s.sp = s.sp - k ↔ k = 0 := eq_comm.trans sub_eq_self
  simp only [FramePushed, pushContext_sp, pushContext_mem, Memory.read_write]
  refine ⟨trivial, ?_, ?_, ?_, ?_, ?_, ?_, ?_, fun b hb => ?outside⟩
  case outside =>
    have hb0 : b ≠ s.sp := fun h => hb 0 (by decide) (h.trans (sub_zero s.sp).symm)
    have hbelow : b ≠ s.sp - 6 ∧ b ≠ s.sp - 5 ∧ b ≠ s.sp - 4 ∧ b ≠ s.sp - 3 ∧ b ≠ s.sp - 2 ∧ b ≠ s.sp - 1 :=
      ⟨hb 6 (by decide), hb 5 (by decide), hb 4 (by decide), hb 3 (by decide), hb 2 (by decide), hb 1 (by decide)⟩
    simp only [hbelow, hb0, if_false]
  all_goals simp [hsp]

/-! ## The pull -/

/-- The registers and SP are written independently, so the order of the pulls (R432) leaves no trace. -/
theorem pullContext_eq_record (s : State) : pullContext s = { s.setIx (s.mem.read16 (s.sp + 4)) with
    ccr := ccrOfByte (s.mem.read (s.sp + 1)), b := s.mem.read (s.sp + 2), a := s.mem.read (s.sp + 3),
    pc := s.mem.read16 (s.sp + 6), sp := s.sp + 7 } := by
  rw [pullContext_eq]
  obtain ⟨_, _, _, _, _, _, _ | _⟩ := s <;> rfl

@[simp] theorem pullContext_ccr (s : State) : (pullContext s).ccr = ccrOfByte (s.mem.read (s.sp + 1)) := by
  rw [pullContext_eq_record]

@[simp] theorem pullContext_pc (s : State) : (pullContext s).pc = s.mem.read16 (s.sp + 6) := by
  rw [pullContext_eq_record]

@[simp] theorem pullContext_ix (s : State) : (pullContext s).ix = s.mem.read16 (s.sp + 4) := by
  rw [pullContext_eq_record]
  exact State.setIx_ix s _

/-- A pulled frame gives back the registers stacked, whatever else has changed since the push. -/
theorem pullContext_of_framePushed {s t : State} {ret : Word} (h : FramePushed s t ret) : pullContext t =
    { t.setIx s.ix with ccr := s.ccr, b := s.b, a := s.a, pc := ret, sp := s.sp } := by
  obtain ⟨hsp, hretLo, hretHi, hixLo, hixHi, ha, hb, hccr, -⟩ := h
  have hpull (k j : Word) : s.sp - k + j = s.sp - (k - j) := sub_add ..
  have htop : s.sp - 0#16 = s.sp := sub_zero s.sp
  -- `reduceSub` leaves its literals as `k#16`, so the frame's addresses are brought to that spelling first.
  simp only [BitVec.ofNat_eq_ofNat] at hretHi hixLo hixHi ha hb hccr
  simp only [pullContext_eq_record, Memory.read16, hsp, hpull, BitVec.reduceSub, htop, hretLo, hretHi, hixLo, hixHi,
    ha, hb, hccr, ccrOfByte_ccrByte, joinBytes_hiByte_loByte]

theorem setIx_ix_self (s : State) : s.setIx s.ix = s := by
  obtain ⟨_, _, _, _, _, _, _ | _⟩ := s <;> rfl

/-! ## The obligations -/

/-- Settles O39: the frame is that of `PushContext`, and the exception changes nothing that the frame reads. -/
theorem softwareInterrupt : Obligations.SoftwareInterrupt := by
  refine ⟨row_of_encode rfl rfl rfl, fun s => ⟨takeException swiIndex (s.pc + 1) false s, rfl, ?_, ?_⟩⟩
  · have hret : s.pc + 1 = BitVec.ofNat 16 (s.pc.toNat + 1) := add_eq_ofNat s.pc 1
    rw [← hret]
    exact pushContext_framePushed (s.pc + 1) s
  · have hvec (m : Memory) : vectorFetch m swiIndex = m.read16 0xFFFA := rfl
    rw [← hvec]
    ext <;> simp

/-- Settles O41: the pull as one equation, and the frame that SWI pushes is the one that RTI pulls. -/
theorem returnFromInterrupt : Obligations.ReturnFromInterrupt := by
  refine ⟨row_of_encode rfl rfl rfl, fun s => ⟨⟨pullContext s, rfl, ?ccr, ?next, ?ix, ?pc⟩, ?afterSwi⟩⟩
  case ccr => rw [pullContext_ccr, ccrByte_ccrOfByte]
  case next =>
    rw [pullContext_ix, pullContext_ccr, pullContext_pc]
    exact pullContext_eq_record s
  case ix =>
    have haddr : s.sp + 4 + 1 = s.sp + 5 := BitVec.add_assoc ..
    rw [pullContext_ix, toNat_read16, haddr]
  case pc =>
    have haddr : s.sp + 6 + 1 = s.sp + 7 := BitVec.add_assoc ..
    rw [pullContext_pc, toNat_read16, haddr]
  case afterSwi =>
    obtain ⟨-, hswi⟩ := softwareInterrupt
    obtain ⟨t, ht, hframe, hkept⟩ := hswi s
    have hix : t.ix = s.ix := by rw [hkept]; rfl
    refine ⟨t, ht, congrArg Host.Outcome.next ?_⟩
    rw [pullContext_of_framePushed hframe, ← hix, setIx_ix_self, hkept]

end Sys2Proof.Proofs
end

section
/-! The round trips of the encoding (30_encoding.md sections 1 to 3). One direction is the family `Laws.DecodeEncode`,
assembled over the instructions. The other reads the opcode maps once: the instruction that a cell makes encodes as the
cell's opcode and the operand bytes that the cell's format takes. -/

namespace Sys2Proof.Proofs

/-! ## Decode after encode -/

open Laws.DecodeEncode in
theorem decodeEncode_statement : ∀ i : Instr, Statement i
  | .ldaa o => ldaa o | .ldab o => ldab o | .staa m => staa m | .stab m => stab m | .lds o => lds o | .ldx o => ldx o
  | .sts m => sts m | .stx m => stx m | .ldd o => ldd o | .std m => std m | .tab => tab | .tba => tba | .tap => tap
  | .tpa => tpa | .tsx => tsx | .txs => txs | .psha => psha | .pshb => pshb | .pula => pula | .pulb => pulb
  | .pshx => pshx | .pulx => pulx
  | .adda o => adda o | .addb o => addb o | .adca o => adca o | .adcb o => adcb o | .suba o => suba o | .subb o => subb o
  | .sbca o => sbca o | .sbcb o => sbcb o | .cmpa o => cmpa o | .cmpb o => cmpb o | .anda o => anda o | .andb o => andb o
  | .bita o => bita o | .bitb o => bitb o | .eora o => eora o | .eorb o => eorb o | .oraa o => oraa o | .orab o => orab o
  | .aba => aba | .sba => sba | .cba => cba | .daa => daa | .addd o => addd o | .subd o => subd o | .cpx o => cpx o
  | .mul => mul | .inx => inx | .dex => dex | .ins => ins | .des => des | .abx => abx
  | .nega => nega | .negb => negb | .neg m => neg m | .coma => coma | .comb => comb | .com m => com m
  | .lsra => lsra | .lsrb => lsrb | .lsr m => lsr m | .rora => rora | .rorb => rorb | .ror m => ror m
  | .asra => asra | .asrb => asrb | .asr m => asr m | .asla => asla | .aslb => aslb | .asl m => asl m
  | .rola => rola | .rolb => rolb | .rol m => rol m | .deca => deca | .decb => decb | .dec m => dec m
  | .inca => inca | .incb => incb | .inc m => inc m | .tsta => tsta | .tstb => tstb | .tst m => tst m
  | .clra => clra | .clrb => clrb | .clr m => clr m | .asld => asld | .lsrd => lsrd
  | .bra r => bra r | .brn r => brn r | .bhi r => bhi r | .bls r => bls r | .bcc r => bcc r | .bcs r => bcs r
  | .bne r => bne r | .beq r => beq r | .bvc r => bvc r | .bvs r => bvs r | .bpl r => bpl r | .bmi r => bmi r
  | .bge r => bge r | .blt r => blt r | .bgt r => bgt r | .ble r => ble r | .bsr r => bsr r | .jmp m => jmp m
  | .jsr m => jsr m | .rts => rts
  | .clc => clc | .sec => sec | .clv => clv | .sev => sev | .cli => cli | .sei => sei | .nop => nop | .swi => swi
  | .wai => wai | .rti => rti | .invalid op => invalid op

/-- Settles O2: instruction by instruction. -/
theorem decodeOfEncodeIsTheInstruction : Obligations.DecodeOfEncodeIsTheInstruction :=
  fun v i rest h => decodeEncode_statement i v rest h

/-! ## Encode after decode -/

/-- The operand bytes that a format takes of the two bytes after the opcode. -/
def operandsOf (h l : Byte) : Format → List Byte
  | .inh _ => []
  | .byte _ => [h]
  | .word _ => [hiByte (joinBytes h l), loByte (joinBytes h l)]
  | .invalid => []

theorem length_operandsOf (h l : Byte) (f : Format) : (operandsOf h l f).length = f.operandBytes := by
  cases f <;> rfl

/-- What a read answers: the instruction of the format, with the operand bytes taken from the front. -/
theorem read_eq_ok {op : Byte} {f : Format} {bytes rest : List Byte} {i : Instr} (hread : f.read op bytes = .ok (i, rest)) :
    ∃ h l, i = instrOf op h l f ∧ bytes = operandsOf h l f ++ rest := by
  unfold Format.read at hread
  split at hread <;> cases hread
  case h_1 => exact ⟨0, 0, rfl, rfl⟩
  case h_2 h => exact ⟨h, 0, rfl, rfl⟩
  case h_3 h l => exact ⟨h, l, rfl, by simp [operandsOf]⟩
  case h_4 => exact ⟨0, 0, rfl, rfl⟩

/-- Whatever cell of the maps an opcode has, the instruction it makes encodes as that opcode and its operand bytes. The
nibbles are generalised so that each cell fixes its opcode. -/
theorem encode_instrOf (op h l : Byte) :
    encode (instrOf op h l (opcodeRow op).format) = op :: operandsOf h l (opcodeRow op).format := by
  have hop : op = BitVec.ofNat 8 (16 * (op.toNat / 16) + op.toNat % 16) := by
    rw [Nat.div_add_mod, BitVec.ofNat_toNat, BitVec.setWidth_eq]
  have hhi : op.toNat / 16 < 16 := Nat.div_lt_of_lt_mul op.isLt
  unfold opcodeRow
  generalize op.toNat / 16 = hi at hop hhi
  generalize op.toNat % 16 = lo at hop
  subst hop
  unfold mapRow0 mapRow1 mapRow2 mapRow3 mapRow4 mapRow5 mapRow6 mapRow7
    mapRow8 mapRow9 mapRowA mapRowB mapRowC mapRowD mapRowE mapRowF
  split
  case h_16 =>
    simp only [imp_false] at *
    obtain rfl : hi = 15 := by omega
    split <;> rfl
  all_goals split <;> rfl

theorem wellFormed_of_variantHas {v : Variant} {i : Instr} (h : variantHas v i = true) : WellFormed v i = true := by
  cases i with
  | invalid op => cases h
  | _ => exact h

theorem encode_append_of_decode {v : Variant} {bytes rest : List Byte} {i : Instr} (h : decode v bytes = .ok (i, rest)) :
    encode i ++ rest = bytes := by
  obtain ⟨op, more, rfl, ⟨-, rfl, rfl⟩ | ⟨-, -, hread⟩⟩ := decode_cases h
  · rfl
  · obtain ⟨x, y, rfl, rfl⟩ := read_eq_ok hread
    rw [encode_instrOf, List.cons_append]

theorem wellFormed_of_decode {v : Variant} {bytes rest : List Byte} {i : Instr} (h : decode v bytes = .ok (i, rest)) :
    WellFormed v i = true := by
  obtain ⟨op, more, rfl, ⟨hc, rfl, -⟩ | ⟨hv, -, -⟩⟩ := decode_cases h
  · exact decide_eq_true ((opcodeCycles_eq_none_iff v op).mp hc)
  · exact wellFormed_of_variantHas hv

/-- Settles O3: an opcode without a cell is INVALID, and a cell's instruction encodes as the bytes that were read. -/
theorem encodeOfDecodeIsTheBytes : Obligations.EncodeOfDecodeIsTheBytes :=
  fun _ _ _ _ h => ⟨wellFormed_of_decode h, encode_append_of_decode h⟩

/-! ## The worked words -/

/-- Settles O1: the decoder evaluated on the words of the format examples. -/
theorem writtenWordsDecode : Obligations.WrittenWordsDecode :=
  ⟨rfl, rfl, rfl, rfl, rfl, rfl, rfl, rfl, rfl, rfl, rfl⟩

/-! ## Lengths (R109) -/

theorem opcodeCycles_none_or_isSome (v : Variant) (op : Byte) :
    opcodeCycles v op = none ∨ (opcodeCycles v op).isSome = true := by
  cases opcodeCycles v op
  · exact .inl rfl
  · exact .inr rfl

theorem opcodeLength_of_none {v : Variant} {op : Byte} (hc : opcodeCycles v op = none) : opcodeLength v op = 1 := by
  simp [opcodeLength, hc]

theorem opcodeLength_of_isSome {v : Variant} {op : Byte} (hc : (opcodeCycles v op).isSome = true) :
    opcodeLength v op = (opcodeRow op).format.operandBytes + 1 := by
  obtain ⟨c, hc⟩ := Option.isSome_iff_exists.mp hc
  simp [opcodeLength, hc]

theorem operandBytes_le_two (f : Format) : f.operandBytes ≤ 2 := by
  cases f <;> simp [Format.operandBytes]

/-- A variant has a cell for the opcode or lists it as INVALID; the length is 1 to 3 in either case. -/
theorem opcodeLength_bounds (v : Variant) (op : Byte) : 1 ≤ opcodeLength v op ∧ opcodeLength v op ≤ 3 := by
  obtain hc | hc := opcodeCycles_none_or_isSome v op
  · rw [opcodeLength_of_none hc]
    decide
  · have hle := operandBytes_le_two (opcodeRow op).format
    rw [opcodeLength_of_isSome hc]
    omega

theorem exists_read_eq_ok {op : Byte} {f : Format} {more : List Byte} (hlen : f.operandBytes ≤ more.length) :
    ∃ i rest, f.read op more = .ok (i, rest) := by
  unfold Format.read
  split
  case h_5 | h_6 | h_7 => simp [Format.operandBytes] at hlen
  all_goals exact ⟨_, _, rfl⟩

theorem read_eq_truncated {op : Byte} {f : Format} {more : List Byte} (hlen : more.length < f.operandBytes) :
    f.read op more = .error (.truncated op) := by
  unfold Format.read
  split
  case h_5 | h_6 | h_7 => rfl
  all_goals simp [Format.operandBytes] at hlen

/-- What is left over is what follows the bytes of the encoding. -/
theorem rest_eq_drop_of_encode {i : Instr} {bytes rest : List Byte} (h : encode i ++ rest = bytes) :
    rest = bytes.drop (encode i).length := by
  rw [← h, List.drop_left]

/-- A decoded instruction has the length of its opcode. -/
theorem length_encode_of_decode {v : Variant} {op : Byte} {more rest : List Byte} {i : Instr}
    (h : decode v (op :: more) = .ok (i, rest)) : (encode i).length = opcodeLength v op := by
  obtain hc | hc := opcodeCycles_none_or_isSome v op
  · rw [decode_of_none hc] at h
    cases h
    exact (opcodeLength_of_none hc).symm
  · rw [decode_of_isSome hc] at h
    obtain ⟨x, y, rfl, -⟩ := read_eq_ok h
    rw [encode_instrOf, List.length_cons, length_operandsOf, opcodeLength_of_isSome hc]

theorem exists_decode_eq_ok {v : Variant} {op : Byte} {more : List Byte} (hlen : opcodeLength v op ≤ more.length + 1) :
    ∃ i rest, decode v (op :: more) = .ok (i, rest) := by
  obtain hc | hc := opcodeCycles_none_or_isSome v op
  · exact ⟨_, _, decode_of_none hc more⟩
  · rw [opcodeLength_of_isSome hc] at hlen
    rw [decode_of_isSome hc]
    exact exists_read_eq_ok (Nat.le_of_succ_le_succ hlen)

/-- Only an opcode with a cell can want more bytes than there are. -/
theorem decode_eq_truncated {v : Variant} {op : Byte} {more : List Byte} (hlen : more.length + 1 < opcodeLength v op) :
    decode v (op :: more) = .error (.truncated op) := by
  obtain hc | hc := opcodeCycles_none_or_isSome v op
  · rw [opcodeLength_of_none hc] at hlen
    omega
  · rw [opcodeLength_of_isSome hc] at hlen
    rw [decode_of_isSome hc]
    exact read_eq_truncated (Nat.lt_of_succ_lt_succ hlen)

/-- Settles O4: a list long enough decodes, and its encoding gives the length and what is left over. -/
theorem lengthComesFromTheOpcode : Obligations.LengthComesFromTheOpcode := by
  refine fun v op more => ⟨opcodeLength_bounds v op, fun hinv => ?invalid, fun hlen => ?decodes, decode_eq_truncated⟩
  case invalid => exact opcodeLength_of_none (opcodeCycles_of_invalid v op hinv)
  case decodes =>
    obtain ⟨i, rest, h⟩ := exists_decode_eq_ok hlen
    have hn := length_encode_of_decode h
    refine ⟨i, rest, h, hn, ?_⟩
    have hpos : opcodeLength v op = opcodeLength v op - 1 + 1 := by have := opcodeLength_bounds v op; omega
    rw [rest_eq_drop_of_encode (encode_append_of_decode h), hn, hpos, List.drop_succ_cons, Nat.add_sub_cancel]

end Sys2Proof.Proofs
end

section
/-! What one instruction reads and writes (10_state.md R38 to R46, 20_memory.md R81, 40_decode_dispatch.md R150 to R152).
Three facts about `exec`, each by one case split over the instructions, and from them what holds of all instructions:
`exec_graft` (a handler neither reads nor writes the rest of the state), `exec_writes` (which of them write flags, memory,
`wai` and the draws) and `exec_pc`. -/

namespace Sys2Proof.Proofs

open Sys2Proof.Machine Sys2Proof.Claims

/-! ## The rest of the state -/

/-- `r` with everything that a handler may write taken from `t`: what is left of `r` is the other index register, the
selector, `pending`, the counter, `backup` and the configuration. -/
def graft (r t : State) : State :=
  { r.setIx t.ix with
    pc := t.pc, sp := t.sp, a := t.a, b := t.b, ccr := t.ccr, mem := t.mem, wai := t.wai, draws := t.draws }

@[simp] theorem graft_pc (r t : State) : (graft r t).pc = t.pc := rfl
@[simp] theorem graft_ccr (r t : State) : (graft r t).ccr = t.ccr := rfl
@[simp] theorem graft_mem (r t : State) : (graft r t).mem = t.mem := rfl
@[simp] theorem graft_ix (r t : State) : (graft r t).ix = t.ix := State.setIx_ix r t.ix
@[simp] theorem graft_backup (r t : State) : (graft r t).backup = r.backup := State.setIx_backup r t.ix
@[simp] theorem graft_cfg (r t : State) : (graft r t).cfg = r.cfg := State.setIx_cfg r t.ix
@[simp] theorem graft_pending (r t : State) : (graft r t).pending = r.pending := State.setIx_pending r t.ix
@[simp] theorem graft_cycle (r t : State) : (graft r t).cycle = r.cycle := State.setIx_cycle r t.ix
@[simp] theorem graft_curCycles (r t : State) : (graft r t).curCycles = r.curCycles := State.setIx_curCycles r t.ix
@[simp] theorem graft_curIndReg (r t : State) : (graft r t).curIndReg = r.curIndReg := State.setIx_curIndReg r t.ix

theorem graft_self (s : State) : graft s s = s := by
  rw [graft, setIx_ix_self]

theorem op16_graft (o : Operand16) (r s : State) : op16 o (graft r s) = op16 o s := by
  obtain _ | (_ | _ | _) := o <;> simp [op16, ea]

theorem branch_graft (k : Cond) (rel : Byte) (r s : State) : branch k rel (graft r s) = graft r (branch k rel s) := by
  rw [branch_eq, branch_eq]
  rfl

/-- The frame is pushed from registers that a handler may write. -/
theorem pushContext_graft (ret : Word) (r s : State) : pushContext ret (graft r s) = graft r (pushContext ret s) := by
  have hmem : (pushContext ret (graft r s)).mem = (pushContext ret s).mem :=
    pushContext_mem_congr ret rfl rfl (graft_ix r s) rfl rfl rfl
  rw [pushContext_eq ret s, pushContext_eq ret (graft r s), hmem]
  rfl

theorem takeException_graft (n : Nat) (ret : Word) (stacked : Bool) (r s : State) :
    takeException n ret stacked (graft r s) = graft r (takeException n ret stacked s) := by
  rw [takeException, takeException, pushContext_graft]
  generalize pushContext ret s = framed
  cases stacked <;> rfl

theorem execWai_graft (r s : State) : execWai (graft r s) = andThen (execWai s) (graft r) := by
  rw [execWai, execWai, graft_pc, pushContext_graft]
  generalize pushContext (s.pc + 1) s = framed
  rfl

theorem pullContext_graft (r s : State) : pullContext (graft r s) = graft r (pullContext s) := by
  rw [pullContext_eq_record, pullContext_eq_record]
  obtain ⟨_, _, _, _, _, _, _ | _⟩ := r <;> obtain ⟨_, _, _, _, _, _, _ | _⟩ := s <;> rfl

theorem execCpx_graft (o : Operand16) (r s : State) (hv : r.cfg.variant = s.cfg.variant) :
    execCpx o (graft r s) = andThen (execCpx o s) (graft r) := by
  simp only [execCpx, graft_cfg, graft_ix, graft_ccr, op16_graft, hv]
  rfl

theorem execInvalid_skips (op : Byte) {s : State} (h : s.cfg.incOnMissing = true) : execInvalid op s = .next (s.advance 1) := by
  rw [execInvalid, if_pos h]

theorem execInvalid_halts (op : Byte) {s : State} (h : s.cfg.incOnMissing = false) :
    execInvalid op s = .fault (.halt s.pc op) := by
  rw [execInvalid, h]
  rfl

theorem execInvalid_eq_next {op : Byte} {s t : State} (h : execInvalid op s = .next t) : t = s.advance 1 := by
  cases hinc : s.cfg.incOnMissing with
  | true =>
    rw [execInvalid_skips op hinc] at h
    exact (Host.Outcome.next.inj h).symm
  | false =>
    rw [execInvalid_halts op hinc] at h
    cases h

theorem execInvalid_graft (op : Byte) (r s : State) (hinc : r.cfg.incOnMissing = s.cfg.incOnMissing) :
    execInvalid op (graft r s) = andThen (execInvalid op s) (graft r) := by
  cases h : s.cfg.incOnMissing with
  | true => rw [execInvalid_skips op h, execInvalid_skips op (by rw [graft_cfg, hinc, h])]; rfl
  | false => rw [execInvalid_halts op h, execInvalid_halts op (by rw [graft_cfg, hinc, h])]; rfl

/-- A handler neither reads nor writes the rest of the state, but for INC_ON_MISSING (R395) and, in CPX, the variant (R266). -/
theorem exec_graft {i : Instr} (r s : State) (hinc : r.cfg.incOnMissing = s.cfg.incOnMissing)
    (hcpx : ∀ o, i = .cpx o → r.cfg.variant = s.cfg.variant) : exec i (graft r s) = andThen (exec i s) (graft r) := by
  cases i
  case invalid op => exact execInvalid_graft op r s hinc
  case cpx o => exact execCpx_graft o r s (hcpx o rfl)
  case bra | brn | bhi | bls | bcc | bcs | bne | beq | bvc | bvs | bpl | bmi | bge | blt | bgt | ble =>
    exact congrArg Host.Outcome.next (branch_graft _ _ r s)
  case swi => exact congrArg Host.Outcome.next (takeException_graft _ _ _ r s)
  case wai => exact execWai_graft r s
  case rti => exact congrArg Host.Outcome.next (pullContext_graft r s)
  -- The others read and write plain fields, and the active index register by its selector.
  all_goals
    obtain ⟨_, _, _, _, _, _, _ | _⟩ := r <;> obtain ⟨_, _, _, _, _, _, _ | _⟩ := s <;> rfl

/-- No instruction writes the rest of the state. -/
theorem eq_graft_of_exec {i : Instr} {s t : State} (h : exec i s = .next t) : t = graft s t := by
  have hs := exec_graft (i := i) s s rfl fun _ _ => rfl
  rw [graft_self, h] at hs
  exact Host.Outcome.next.inj hs

/-- A change of the rest of the state can be made before or after an instruction. -/
theorem exec_comm_of_graft {i : Instr} {s : State} (g : State → State) (hg : ∀ t, g (graft s t) = graft (g s) t)
    (hinc : (g s).cfg.incOnMissing = s.cfg.incOnMissing) (hcpx : ∀ o, i = .cpx o → (g s).cfg.variant = s.cfg.variant) :
    exec i (g s) = andThen (exec i s) g := by
  have hs : g s = graft (g s) s := by rw [← hg, graft_self]
  rw [hs, exec_graft (g s) s hinc hcpx]
  cases h : exec i s with
  | next t => rw [andThen_next, andThen_next, ← hg, ← eq_graft_of_exec h]
  | fault => rfl
  | refused => rfl

theorem switchVersion_graft (v : Variant) (r t : State) :
    switchVersion v (graft r t) = graft (switchVersion v r) t := by
  obtain ⟨_, _, _, _, _, _, _ | _⟩ := r <;> rfl

/-- Settles O45: the variant is in the rest of the state, which only CPX reads. -/
theorem handlersAreTheSameOnBothVariants : Obligations.HandlersAreTheSameOnBothVariants :=
  fun v _ s hi => exec_comm_of_graft (switchVersion v) (switchVersion_graft v s) rfl fun o ho => absurd ho (hi o)

/-! ## Flags, memory, `wai`, the draws -/

/-- The instruction that writes `wai` (10_state.md R46). -/
def writesWai : Instr → Bool
  | .wai => true
  | _ => false

/-- The instruction that makes a draw (42_arith_logic.md R263). -/
def writesDraws : Instr → Bool
  | .daa => true
  | _ => false

theorem writesWai_of_ne {i : Instr} (h : i ≠ .wai) : writesWai i = false := by
  unfold writesWai
  split
  · contradiction
  · rfl

theorem writesDraws_of_ne {i : Instr} (h : i ≠ .daa) : writesDraws i = false := by
  unfold writesDraws
  split
  · contradiction
  · rfl

/-- The flags that the instruction writes from `g`, the others from `f`. -/
def writtenCcr (v : Variant) (i : Instr) (f g : Ccr) : Ccr where
  h := bif writesH i then g.h else f.h
  i := bif writesI i then g.i else f.i
  n := bif writesN i then g.n else f.n
  z := bif writesZ i then g.z else f.z
  v := bif writesV i then g.v else f.v
  c := bif writesC v i then g.c else f.c

/-- `t` with the flags, the memory, `wai` and the draws that the instruction does not write put back from `s`. -/
def written (i : Instr) (s t : State) : State :=
  { t with
    ccr := writtenCcr s.cfg.variant i s.ccr t.ccr
    mem := bif writesMemory i then t.mem else s.mem
    wai := bif writesWai i then t.wai else s.wai
    draws := bif writesDraws i then t.draws else s.draws }

/-- An instruction writes only what its lists say (10_state.md R38 to R43, R46; 20_memory.md R81). -/
theorem exec_writes {i : Instr} {s t : State} (h : exec i s = .next t) : t = written i s t := by
  obtain ⟨_, _, _, _, _, _, _ | _, _, _, _, _, _, _, _, cfg, _⟩ := s
  all_goals
    cases i
    case invalid op =>
      rw [execInvalid_eq_next h]
      rfl
    all_goals obtain rfl := Host.Outcome.next.inj h
    case cpx => obtain ⟨_ | _⟩ := cfg <;> rfl
    case bra | brn | bhi | bls | bcc | bcs | bne | beq | bvc | bvs | bpl | bmi | bge | blt | bgt | ble =>
      rw [branch_eq]
      rfl
    case swi =>
      rw [takeException_eq]
      rfl
    case wai =>
      rw [pushContext_eq]
      rfl
    case rti =>
      rw [pullContext_eq_record]
      rfl
    all_goals rfl

theorem exec_ccr {i : Instr} {s t : State} (h : exec i s = .next t) :
    t.ccr = writtenCcr s.cfg.variant i s.ccr t.ccr := congrArg State.ccr (exec_writes h)

theorem exec_mem {i : Instr} {s t : State} (h : exec i s = .next t) (hi : writesMemory i = false) : t.mem = s.mem := by
  simpa [written, hi] using congrArg State.mem (exec_writes h)

theorem exec_wai {i : Instr} {s t : State} (h : exec i s = .next t) (hi : i ≠ .wai) : t.wai = s.wai := by
  simpa [written, writesWai_of_ne hi] using congrArg State.wai (exec_writes h)

theorem exec_draws {i : Instr} {s t : State} (h : exec i s = .next t) (hi : i ≠ .daa) : t.draws = s.draws := by
  simpa [written, writesDraws_of_ne hi] using congrArg State.draws (exec_writes h)

/-- Settles O43: each flag of the next state, by the lists of writers. -/
theorem flagsHaveOnlyTheirWriters : Obligations.FlagsHaveOnlyTheirWriters := by
  intro i s t h
  have hccr := exec_ccr h
  refine ⟨fun hw => ?h, fun hw => ?i, fun hw => ?n, fun hw => ?z, fun hw => ?v, fun hw => ?c⟩
  case h => simpa [writtenCcr, hw] using congrArg Ccr.h hccr
  case i => simpa [writtenCcr, hw] using congrArg Ccr.i hccr
  case n => simpa [writtenCcr, hw] using congrArg Ccr.n hccr
  case z => simpa [writtenCcr, hw] using congrArg Ccr.z hccr
  case v => simpa [writtenCcr, hw] using congrArg Ccr.v hccr
  case c => simpa [writtenCcr, hw] using congrArg Ccr.c hccr

/-! ## PC -/

/-- PC passes the instruction's bytes: its meaning adds the length of its encoding (R150). -/
theorem exec_pc {i : Instr} {s t : State} (h : exec i s = .next t) (hi : transfersControl i = false) :
    t.pc = nextPc i s := by
  obtain ⟨pc, _, _, _, _, _, _ | _⟩ := s
  all_goals
    cases i
    case bra | brn | bhi | bls | bcc | bcs | bne | beq | bvc | bvs | bpl | bmi | bge | blt | bgt | ble | bsr | jmp | jsr | rts |
        rti | swi => cases hi
    case invalid op =>
      rw [execInvalid_eq_next h]
      rfl
    all_goals obtain rfl := Host.Outcome.next.inj h
    case ldaa o | ldab o | adda o | addb o | adca o | adcb o | suba o | subb o | sbca o | sbcb o | cmpa o | cmpb o | anda o |
        andb o | bita o | bitb o | eora o | eorb o | oraa o | orab o =>
      exact congrArg (pc + BitVec.ofNat 16 ·) (length_encode8 _ o).symm
    case lds o | ldx o | ldd o | addd o | subd o | cpx o => exact congrArg (pc + BitVec.ofNat 16 ·) (length_encode16 _ o).symm
    case staa m | stab m | sts m | stx m | std m => exact congrArg (pc + BitVec.ofNat 16 ·) (length_encodeMem _ m).symm
    case neg m | com m | lsr m | ror m | asr m | asl m | rol m | dec m | inc m | tst m | clr m =>
      exact congrArg (pc + BitVec.ofNat 16 ·) (length_encodeIndExt _ m).symm
    all_goals rfl

/-! ## How an instruction can stop -/

/-- Every instruction completes, but for an INVALID opcode that halts. -/
theorem exec_completes_or_halts (i : Instr) (s : State) : (∃ t, exec i s = .next t) ∨
    ∃ op, i = .invalid op ∧ s.cfg.incOnMissing = false ∧ exec i s = .fault (.halt s.pc op) := by
  cases i
  case invalid op =>
    cases hinc : s.cfg.incOnMissing with
    | true => exact .inl ⟨_, execInvalid_skips op hinc⟩
    | false => exact .inr ⟨op, rfl, rfl, execInvalid_halts op hinc⟩
  all_goals exact .inl ⟨_, rfl⟩

theorem exec_ne_refused (i : Instr) (s : State) (q : Refusal) : exec i s ≠ .refused q := by
  obtain ⟨t, h⟩ | ⟨op, -, -, h⟩ := exec_completes_or_halts i s <;> rw [h] <;> nofun

theorem exec_eq_fault_iff {i : Instr} {s : State} {e : Fault} :
    exec i s = .fault e ↔ ∃ op, i = .invalid op ∧ s.cfg.incOnMissing = false ∧ e = .halt s.pc op := by
  constructor
  · intro h
    obtain ⟨t, h'⟩ | ⟨op, hi, hinc, h'⟩ := exec_completes_or_halts i s <;> rw [h'] at h <;> cases h
    exact ⟨op, hi, hinc, rfl⟩
  · rintro ⟨op, rfl, hinc, rfl⟩
    exact execInvalid_halts op hinc

/-- Settles O44: the rest of the state, then what few instructions write, then the stops. -/
theorem instructionsKeepTheRest : Obligations.InstructionsKeepTheRest := by
  refine fun i s => ⟨fun t h => ?next, exec_ne_refused i s, fun e h => ?fault⟩
  case next =>
    have hrest := eq_graft_of_exec h
    refine ⟨?_, ?_, ?_, ?_, ?_, ?_, exec_wai h, exec_draws h, exec_mem h, exec_pc h⟩ <;> rw [hrest] <;> simp
  case fault =>
    obtain ⟨op, hi, -, he⟩ := exec_eq_fault_iff.mp h
    exact ⟨op, hi, he⟩

end Sys2Proof.Proofs
end

section
/-! The instruction at PC (40_decode_dispatch.md R148, R140): what is fetched, what it costs, and the INVALID opcodes. -/

namespace Sys2Proof.Proofs

open Sys2Proof.Machine Sys2Proof.Claims

/-! ## Fetch -/

theorem fetchInstr_of_at {s : State} {i : Instr} (h : At s i) : fetchInstr s = i := by
  obtain ⟨rest, h⟩ := h
  simp only [fetchInstr, fetchBytes, h]

/-- Three bytes always decode, so there is always an instruction at PC. -/
theorem at_fetchInstr (s : State) : At s (fetchInstr s) := by
  obtain ⟨i, rest, h⟩ := decode_three_bytes s.cfg.variant (s.mem.read s.pc) (s.mem.read (s.pc + 1)) (s.mem.read (s.pc + 2))
  have hat : At s i := ⟨rest, h⟩
  rwa [fetchInstr_of_at hat]

/-- The cycle counts of a decoded instruction are those of the opcode it was decoded from. -/
theorem instrCycles_of_decode {v : Variant} {op : Byte} {more rest : List Byte} {i : Instr}
    (h : decode v (op :: more) = .ok (i, rest)) (w : Variant) : instrCycles w i = opcodeCycles w op := by
  have hbytes := encode_append_of_decode h
  have hlen := length_encode_of_decode h
  cases henc : encode i with
  | nil =>
    obtain ⟨hpos, -⟩ := opcodeLength_bounds v op
    rw [← hlen, henc, List.length_nil] at hpos
    omega
  | cons first tail =>
    rw [henc, List.cons_append] at hbytes
    rw [instrCycles, henc, (List.cons.inj hbytes).1]

theorem dispatchCycles_of_at {s : State} {i : Instr} (h : At s i) : dispatchCycles s = cyclesOf i s := by
  obtain ⟨rest, h⟩ := h
  rw [cyclesOf, instrCycles_of_decode h, dispatchCycles]
  cases opcodeCycles s.cfg.variant (s.mem.read s.pc) <;> rfl

/-! ## INVALID opcodes -/

/-- The decoder answers `invalid op` for the opcode `op` only, and only where the variant has no cell for it. -/
theorem at_invalid_iff (s : State) (op : Byte) :
    At s (.invalid op) ↔ s.mem.read s.pc = op ∧ op ∈ invalidOpcodes s.cfg.variant := by
  constructor
  · rintro ⟨rest, h⟩
    have hop := encode_append_of_decode h
    have hwf := wellFormed_of_decode h
    exact ⟨(List.cons.inj hop).1.symm, of_decide_eq_true hwf⟩
  · rintro ⟨rfl, hinv⟩
    exact ⟨_, decode_invalid _ _ _ hinv⟩

/-- Settles O42: the two outcomes of R395, and which opcodes have them. -/
theorem invalidOpcodeSkipsOrHalts : Obligations.InvalidOpcodeSkipsOrHalts := by
  refine fun s op => ⟨fun hinc => ?skips, execInvalid_halts op, at_invalid_iff s op, fun hat => ?cycles⟩
  case skips =>
    have hpc : s.pc + 1 = BitVec.ofNat 16 (s.pc.toNat + 1) := add_eq_ofNat s.pc 1
    rw [← hpc]
    exact execInvalid_skips op hinc
  case cycles =>
    obtain ⟨-, hinv⟩ := (at_invalid_iff s op).mp hat
    have hnone : instrCycles s.cfg.variant (.invalid op) = none := opcodeCycles_of_invalid s.cfg.variant op hinv
    rw [cyclesOf, hnone, Option.getD_none]

end Sys2Proof.Proofs
end

section
/-! The ticks (60_exceptions.md sections 3 and 4). A step counts, is fatal, services a request, or gets past `pending` and then
either stays parked or runs one instruction. One equation for each of these, then `stepKind`, that there is no other. -/

namespace Sys2Proof.Proofs

open Sys2Proof.Machine Sys2Proof.Claims

/-! ## What a tick finds -/

/-- A request that is not masked (R424). -/
def Unmasked (k : Request) (s : State) : Prop := k = .irq → s.ccr.i = false

/-- Nothing pending, or an IRQ that is dropped (R424). -/
def NothingTaken (s : State) : Prop := s.pending = .none ∨ s.pending = .request .irq ∧ s.ccr.i = true

/-- The tick services `k`, and the service occupies `n` cycles: at once in IPS mode (R425), from the service state in CPS mode
(R430). -/
def Services (s : State) (k : Request) (n : Nat) : Prop :=
  s.cfg.cycleMode = false ∧ s.pending = .request k ∧ Unmasked k s ∧ n = 0 ∨
  s.cfg.cycleMode = true ∧ AtDispatchPoint s ∧ s.pending = .service k ∧ n = 1

/-- The tick services nothing; what it does costs `cost` in CPS mode, and it leaves `p` pending and the count `n` (R425, R428,
R429). -/
def Passes (s : State) (cost : Nat) (p : Pending) (n : Nat) : Prop :=
  s.cfg.cycleMode = false ∧ NothingTaken s ∧ p = .none ∧ n = 0 ∨
  s.cfg.cycleMode = true ∧ AtDispatchPoint s ∧ NothingTaken s ∧ p = .none ∧ n = cost ∨
  s.cfg.cycleMode = true ∧ AtDispatchPoint s ∧
    ∃ k, s.pending = .request k ∧ Unmasked k s ∧ p = .service k ∧ n = cost + Config.intEntryCycles

theorem irqMasked_of_unmasked {s : State} {k : Request} (hp : s.pending = .request k) (hk : Unmasked k s) :
    irqMasked s = false := by
  rw [irqMasked, hp]
  cases k with
  | irq => rw [hk rfl, Bool.and_false]
  | rst | nmi => rfl

theorem irqMasked_of_masked {s : State} (hp : s.pending = .request .irq) (hi : s.ccr.i = true) : irqMasked s = true := by
  rw [irqMasked, hp, hi]
  rfl

/-! ## One equation for each kind of tick -/

theorem step_of_ips {s : State} (hm : s.cfg.cycleMode = false) : step s = ipsTick s := by
  rw [step, tick, hm]
  rfl

theorem step_of_dispatchPoint {s : State} (hm : s.cfg.cycleMode = true) (hd : AtDispatchPoint s) :
    step s = cpsDispatchPoint s := by
  rw [step, tick, if_pos hm, cpsTick, if_neg (Nat.not_lt.mpr hd)]

theorem step_counts {s : State} (hm : s.cfg.cycleMode = true) (hd : ¬AtDispatchPoint s) :
    step s = .next (s.setCycles (s.cycle + 1) s.curCycles) := by
  rw [step, tick, if_pos hm, cpsTick, if_pos (Nat.not_le.mp hd)]

theorem step_fatal {s : State} {k : Request} (hm : s.cfg.cycleMode = false) (hp : s.pending = .service k) :
    step s = .fault .serviceStateInIPS := by
  rw [step_of_ips hm, ipsTick, hp]

theorem step_services {s : State} {k : Request} {n : Nat} (h : Services s k n) :
    step s = .next (((service k s).setPending .none).setCycles 0 n) := by
  obtain ⟨hm, hp, hk, rfl⟩ | ⟨hm, hd, hp, rfl⟩ := h
  · rw [step_of_ips hm, ipsTick, hp]
    simp only [irqMasked_of_unmasked hp hk, Bool.false_eq_true, if_false]
  · rw [step_of_dispatchPoint hm hd, cpsDispatchPoint, hp]

theorem setPending_self {s : State} {p : Pending} (h : s.pending = p) : s.setPending p = s := by
  rw [← h]
  rfl

theorem ipsTick_of_nothingTaken {s : State} (h : NothingTaken s) : ipsTick s = ipsRun (s.setPending .none) := by
  obtain hp | ⟨hp, hi⟩ := h
  · rw [ipsTick, hp, setPending_self hp]
  · rw [ipsTick, hp]
    simp only [irqMasked_of_masked hp hi, if_true]

theorem cpsDispatchPoint_of_nothingTaken {s : State} (h : NothingTaken s) :
    cpsDispatchPoint s = cpsRun (s.setPending .none) := by
  obtain hp | ⟨hp, hi⟩ := h
  · rw [cpsDispatchPoint, hp, setPending_self hp]
  · rw [cpsDispatchPoint, hp]
    simp only [irqMasked_of_masked hp hi, if_true]

theorem cpsDispatchPoint_of_request {s : State} {k : Request} (hp : s.pending = .request k) (hk : Unmasked k s) :
    cpsDispatchPoint s = cpsRequest k s := by
  rw [cpsDispatchPoint, hp]
  simp only [irqMasked_of_unmasked hp hk, Bool.false_eq_true, if_false]

theorem step_parked {s : State} {p : Pending} {n : Nat} (hw : s.wai = true) (h : Passes s 0 p n) :
    step s = .next ((s.setPending p).setCycles 0 n) := by
  have hw' : (s.setPending .none).wai = true := hw
  obtain ⟨hm, hn, rfl, rfl⟩ | ⟨hm, hd, hn, rfl, rfl⟩ | ⟨hm, hd, k, hp, hk, rfl, rfl⟩ := h
  · rw [step_of_ips hm, ipsTick_of_nothingTaken hn, ipsRun, if_pos hw']
  · rw [step_of_dispatchPoint hm hd, cpsDispatchPoint_of_nothingTaken hn, cpsRun, if_pos hw']
  · rw [step_of_dispatchPoint hm hd, cpsDispatchPoint_of_request hp hk, cpsRequest, if_pos hw, Nat.zero_add]
    rfl

theorem andThen_andThen (r : Result) (f g : State → State) : andThen (andThen r f) g = andThen r fun t => g (f t) := by
  cases r <;> rfl

theorem setPending_graft (p : Pending) (r t : State) : (graft r t).setPending p = graft (r.setPending p) t := by
  obtain ⟨_, _, _, _, _, _, _ | _⟩ := r <;> rfl

/-- `pending` is in the rest of the state. -/
theorem dispatch_setPending (s : State) (p : Pending) : dispatch (s.setPending p) = andThen (dispatch s) (·.setPending p) :=
  exec_comm_of_graft (·.setPending p) (setPending_graft p s) rfl fun _ _ => rfl

theorem step_runs {s : State} {p : Pending} {n : Nat} (hw : s.wai = false) (h : Passes s (dispatchCycles s) p n) :
    step s = andThen (exec (fetchInstr s) s) fun t => (t.setPending p).setCycles 0 n := by
  have hw' : ¬(s.setPending .none).wai = true := ne_true_of_eq_false hw
  obtain ⟨hm, hn, rfl, rfl⟩ | ⟨hm, hd, hn, rfl, rfl⟩ | ⟨hm, hd, k, hp, hk, rfl, rfl⟩ := h
  · rw [step_of_ips hm, ipsTick_of_nothingTaken hn, ipsRun, if_neg hw', dispatch_setPending, andThen_andThen]
    rfl
  · rw [step_of_dispatchPoint hm hd, cpsDispatchPoint_of_nothingTaken hn, cpsRun, if_neg hw', dispatch_setPending,
      andThen_andThen]
    rfl
  · rw [step_of_dispatchPoint hm hd, cpsDispatchPoint_of_request hp hk, cpsRequest, if_neg (ne_true_of_eq_false hw)]
    rfl

/-! ## There is no other kind -/

/-- What a step can do, and what it answers. -/
inductive StepKind (s : State) : Prop
  | counts (hm : s.cfg.cycleMode = true) (hd : ¬AtDispatchPoint s)
      (hstep : step s = .next (s.setCycles (s.cycle + 1) s.curCycles))
  | fatal (k : Request) (hm : s.cfg.cycleMode = false) (hp : s.pending = .service k)
      (hstep : step s = .fault .serviceStateInIPS)
  | services (k : Request) (n : Nat) (h : Services s k n)
      (hstep : step s = .next (((service k s).setPending .none).setCycles 0 n))
  | parked (p : Pending) (n : Nat) (hw : s.wai = true) (h : Passes s 0 p n)
      (hstep : step s = .next ((s.setPending p).setCycles 0 n))
  | runs (p : Pending) (n : Nat) (hw : s.wai = false) (h : Passes s (dispatchCycles s) p n)
      (hstep : step s = andThen (exec (fetchInstr s) s) fun t => (t.setPending p).setCycles 0 n)

theorem stepKind_of_passes {s : State} (h : ∀ cost, ∃ p n, Passes s cost p n) : StepKind s := by
  cases hw : s.wai with
  | true =>
    obtain ⟨p, n, hpass⟩ := h 0
    exact .parked p n hw hpass (step_parked hw hpass)
  | false =>
    obtain ⟨p, n, hpass⟩ := h (dispatchCycles s)
    exact .runs p n hw hpass (step_runs hw hpass)

theorem unmasked_or_masked (k : Request) (s : State) : Unmasked k s ∨ k = .irq ∧ s.ccr.i = true := by
  unfold Unmasked
  by_cases hk : k = .irq <;> cases s.ccr.i <;> simp [hk]

theorem stepKind_ips {s : State} (hm : s.cfg.cycleMode = false) : StepKind s := by
  have hpasses (hn : NothingTaken s) : StepKind s := stepKind_of_passes fun _ => ⟨_, _, .inl ⟨hm, hn, rfl, rfl⟩⟩
  cases hp : s.pending with
  | none => exact hpasses (.inl hp)
  | request k =>
    obtain hk | ⟨rfl, hi⟩ := unmasked_or_masked k s
    · have h : Services s k 0 := .inl ⟨hm, hp, hk, rfl⟩
      exact .services k 0 h (step_services h)
    · exact hpasses (.inr ⟨hp, hi⟩)
  | service k => exact .fatal k hm hp (step_fatal hm hp)

theorem stepKind_dispatchPoint {s : State} (hm : s.cfg.cycleMode = true) (hd : AtDispatchPoint s) : StepKind s := by
  have hpasses (hn : NothingTaken s) : StepKind s :=
    stepKind_of_passes fun _ => ⟨_, _, .inr (.inl ⟨hm, hd, hn, rfl, rfl⟩)⟩
  cases hp : s.pending with
  | none => exact hpasses (.inl hp)
  | request k =>
    obtain hk | ⟨rfl, hi⟩ := unmasked_or_masked k s
    · exact stepKind_of_passes fun _ => ⟨_, _, .inr (.inr ⟨hm, hd, k, hp, hk, rfl, rfl⟩)⟩
    · exact hpasses (.inr ⟨hp, hi⟩)
  | service k =>
    have h : Services s k 1 := .inr ⟨hm, hd, hp, rfl⟩
    exact .services k 1 h (step_services h)

theorem stepKind (s : State) : StepKind s := by
  cases hm : s.cfg.cycleMode with
  | false => exact stepKind_ips hm
  | true =>
    by_cases hd : AtDispatchPoint s
    · exact stepKind_dispatchPoint hm hd
    · exact .counts hm hd (step_counts hm hd)

/-- The next state of a step that does not stop. -/
inductive NextKind (s : State) : State → Prop
  | counts (hm : s.cfg.cycleMode = true) (hd : ¬AtDispatchPoint s) : NextKind s (s.setCycles (s.cycle + 1) s.curCycles)
  | services (k : Request) (n : Nat) (h : Services s k n) :
      NextKind s (((service k s).setPending .none).setCycles 0 n)
  | parked (p : Pending) (n : Nat) (hw : s.wai = true) (h : Passes s 0 p n) : NextKind s ((s.setPending p).setCycles 0 n)
  | runs (p : Pending) (n : Nat) (u : State) (hw : s.wai = false) (h : Passes s (dispatchCycles s) p n)
      (hu : exec (fetchInstr s) s = .next u) : NextKind s ((u.setPending p).setCycles 0 n)

theorem nextKind_of_step {s t : State} (ht : step s = .next t) : NextKind s t := by
  cases stepKind s with
  | counts hm hd hstep =>
    cases hstep.symm.trans ht
    exact .counts hm hd
  | fatal k hm hp hstep => cases hstep.symm.trans ht
  | services k n h hstep =>
    cases hstep.symm.trans ht
    exact .services k n h
  | parked p n hw h hstep =>
    cases hstep.symm.trans ht
    exact .parked p n hw h
  | runs p n hw h hstep =>
    obtain ⟨u, hu, rfl⟩ := (andThen_eq_next ..).mp (hstep.symm.trans ht)
    exact .runs p n u hw h hu

end Sys2Proof.Proofs
end

section
/-! The obligations about ticks (60_exceptions.md sections 2 to 5), from the equation of each kind of tick and from
`stepKind`. -/

namespace Sys2Proof.Proofs

open Sys2Proof.Machine Sys2Proof.Claims

/-! ## One instruction -/

theorem pending_of_exec {i : Instr} {s t : State} (h : exec i s = .next t) : t.pending = s.pending := by
  rw [eq_graft_of_exec h, graft_pending]

/-- Settles O47: the tick gets past `pending`, and fetches and counts as the decoder says. -/
theorem stepRunsTheDecodedInstruction : Obligations.StepRunsTheDecodedInstruction := by
  intro s i hp hw hat
  have hruns {n : Nat} (h : Passes s (dispatchCycles s) .none n) :
      step s = andThen (exec i s) fun t => { t with cycle := 0, curCycles := n } := by
    rw [step_runs hw h, fetchInstr_of_at hat]
    cases hexec : exec i s with
    | next t =>
      rw [andThen_next, setPending_self ((pending_of_exec hexec).trans hp)]
      rfl
    | fault => rfl
    | refused => rfl
  refine ⟨fun hm => hruns (.inl ⟨hm, .inl hp, rfl, rfl⟩), fun hm hd => ?_⟩
  rw [← dispatchCycles_of_at hat]
  exact hruns (.inr (.inl ⟨hm, hd, .inl hp, rfl, rfl⟩))

/-! ## Services -/

theorem vectorFetch_index (m : Memory) (k : Request) : vectorFetch m k.index = m.read16 (vectorAddress k) := by
  cases k <;> rfl

/-- The frame is a fact about SP and memory. -/
theorem framePushed_congr {s t u : State} {ret : Word} (hsp : u.sp = t.sp) (hmem : u.mem = t.mem)
    (h : FramePushed s t ret) : FramePushed s u ret := by
  unfold FramePushed
  rw [hsp, hmem]
  exact h

/-- `Service(k)`, whatever becomes of `pending` and the counter (R433). -/
theorem serviced_service (k : Request) (p : Pending) (m n : Nat) (s : State) :
    Serviced k s (((service k s).setPending p).setCycles m n) := by
  rw [service_eq, vectorFetch_index]
  refine ⟨rfl, fun hw => framePushed_congr ?_ ?_ (pushContext_framePushed s.pc s), fun hw => ⟨?_, ?_⟩⟩ <;> simp [hw]

/-- Settles O48: in IPS mode the request is serviced at once. -/
theorem ipsTickServicesARequest : Obligations.IpsTickServicesARequest :=
  fun s k hm hp hk => ⟨_, step_services (.inl ⟨hm, hp, hk, rfl⟩), serviced_service k .none 0 0 s, rfl, rfl, rfl⟩

/-! ## Masked requests -/

/-- The mode decides how the tick of a state with nothing to take begins; then the two are one. -/
theorem step_setPending_of_nothingTaken {s : State} (hn : NothingTaken s) (hd : s.cfg.cycleMode = true → AtDispatchPoint s) :
    step s = step (s.setPending .none) := by
  have hn' : NothingTaken (s.setPending .none) := .inl rfl
  cases hm : s.cfg.cycleMode with
  | false =>
    have hm' : (s.setPending .none).cfg.cycleMode = false := hm
    rw [step_of_ips hm, step_of_ips hm', ipsTick_of_nothingTaken hn, ipsTick_of_nothingTaken hn']
    rfl
  | true =>
    have hm' : (s.setPending .none).cfg.cycleMode = true := hm
    have hd' : AtDispatchPoint (s.setPending .none) := hd hm
    rw [step_of_dispatchPoint hm (hd hm), step_of_dispatchPoint hm' hd', cpsDispatchPoint_of_nothingTaken hn,
      cpsDispatchPoint_of_nothingTaken hn']
    rfl

theorem passes_of_nothingTaken {s : State} (hn : NothingTaken s) (hd : s.cfg.cycleMode = true → AtDispatchPoint s)
    (cost : Nat) : ∃ n, Passes s cost .none n ∧ (cost = 0 → n = 0) := by
  cases hm : s.cfg.cycleMode with
  | false => exact ⟨0, .inl ⟨hm, hn, rfl, rfl⟩, fun _ => rfl⟩
  | true => exact ⟨cost, .inr (.inl ⟨hm, hd hm, hn, rfl, rfl⟩), id⟩

theorem step_parked_of_nothingTaken {s : State} (hw : s.wai = true) (hn : NothingTaken s)
    (hd : s.cfg.cycleMode = true → AtDispatchPoint s) : step s = .next ((s.setPending .none).setCycles 0 0) := by
  obtain ⟨n, hpass, hzero⟩ := passes_of_nothingTaken hn hd 0
  rw [step_parked hw hpass, hzero rfl]

theorem pending_of_step_of_nothingTaken {s t : State} (hn : NothingTaken s) (hd : s.cfg.cycleMode = true → AtDispatchPoint s)
    (h : step s = .next t) : t.pending = .none := by
  cases hw : s.wai with
  | true =>
    rw [step_parked_of_nothingTaken hw hn hd] at h
    cases h
    rfl
  | false =>
    obtain ⟨n, hpass, -⟩ := passes_of_nothingTaken hn hd (dispatchCycles s)
    rw [step_runs hw hpass, andThen_eq_next] at h
    obtain ⟨u, -, rfl⟩ := h
    rfl

/-- Settles O49: a masked IRQ is nothing to take. -/
theorem maskedIrqIsDropped : Obligations.MaskedIrqIsDropped := by
  intro s hp hi hd
  have hn : NothingTaken s := .inr ⟨hp, hi⟩
  exact ⟨step_setPending_of_nothingTaken hn hd, fun t => pending_of_step_of_nothingTaken hn hd,
    fun hw => step_parked_of_nothingTaken hw hn hd⟩

/-! ## The parked core -/

theorem serviced_wai {k : Request} {s t : State} (h : Serviced k s t) : t.wai = false := by
  obtain ⟨hkept, -, -⟩ := h
  rw [hkept]

theorem serviced_pc {k : Request} {s t : State} (h : Serviced k s t) : t.pc = t.mem.read16 (vectorAddress k) := by
  obtain ⟨hkept, -, -⟩ := h
  rw [hkept]

theorem serviced_mem_of_parked {k : Request} {s t : State} (h : Serviced k s t) (hw : s.wai = true) : t.mem = s.mem := by
  obtain ⟨-, -, hparked⟩ := h
  exact (hparked hw).left

/-- Settles O50: while parked, a tick counts, stays parked or services; and a service that finds the core parked pushes
nothing. -/
theorem parkedUntilAService : Obligations.ParkedUntilAService := by
  refine fun s hw => ⟨fun hp hd => ?nothing, fun t ht => ?any⟩
  case nothing =>
    rw [step_parked_of_nothingTaken hw (.inl hp) hd, setPending_self hp]
    rfl
  case any =>
    cases nextKind_of_step ht with
    | counts hm hd => exact .inl ⟨hw, rfl⟩
    | services k n h =>
      have hserviced := serviced_service k .none 0 n s
      refine .inr ⟨serviced_wai hserviced, k, hserviced, serviced_mem_of_parked hserviced hw, ?_⟩
      obtain ⟨hm, hp, hk, -⟩ | ⟨hm, -, hp, -⟩ := h
      · exact .inl ⟨hp, hm, hk⟩
      · exact .inr ⟨hp, hm⟩
    | parked p n hw h => exact .inl ⟨hw, rfl⟩
    | runs p n u hw' h hu => cases hw.symm.trans hw'

/-! ## CPS mode -/

/-- Settles O51: the three CPS ticks of a request, counted by the equation of each. -/
theorem cycleAccurateInterruptEntry : Obligations.CycleAccurateInterruptEntry := by
  refine ⟨Nat.le_add_left 1 _, fun s hm => ⟨step_counts hm, fun hd k hp hk => ⟨fun hw => ?parked, fun hw i hat => ?runs⟩,
    fun hd k hp => ?services⟩⟩
  case parked => exact step_parked hw (.inr (.inr ⟨hm, hd, k, hp, hk, rfl, (Nat.zero_add _).symm⟩))
  case runs =>
    rw [← dispatchCycles_of_at hat, step_runs hw (.inr (.inr ⟨hm, hd, k, hp, hk, rfl, rfl⟩)), fetchInstr_of_at hat]
    rfl
  case services =>
    exact ⟨_, step_services (.inr ⟨hm, hd, hp, rfl⟩), serviced_service k .none 0 1 s, rfl, rfl, rfl⟩

/-- Ticks between two dispatch points. -/
theorem ticks_counts (k c : Nat) (s : State) (hm : s.cfg.cycleMode = true) (hlt : c + k < s.curCycles) :
    ticks k { s with cycle := c } = .next { s with cycle := c + k } := by
  induction k generalizing c with
  | zero => rfl
  | succ k ih =>
    have hd : ¬AtDispatchPoint { s with cycle := c } := Nat.not_le.mpr (show c + 1 < s.curCycles by omega)
    rw [ticks, step_counts (s := { s with cycle := c }) hm hd, Nat.add_comm k, ← Nat.add_assoc]
    exact ih (c + 1) (by omega)

/-- Settles O52: an induction over the ticks, which all count. -/
theorem anInstructionOccupiesItsCycles : Obligations.AnInstructionOccupiesItsCycles := by
  rintro s n hm hc rfl
  refine ⟨fun k hk => ?ticks, fun k hk => ?dispatchPoint⟩
  case ticks =>
    have h := ticks_counts k 0 s hm (by omega)
    rwa [Nat.zero_add, ← hc] at h
  case dispatchPoint =>
    show s.curCycles ≤ k + 1 ↔ k + 1 = s.curCycles
    omega

end Sys2Proof.Proofs
end

section
/-! What a step keeps, reads and stops at (10_state.md R34; 60_exceptions.md R436, R438; 40_decode_dispatch.md R151), and the
host's `step()` (10_state.md R57). -/

namespace Sys2Proof.Proofs

open Sys2Proof.Machine Sys2Proof.Claims

/-! ## Stops -/

theorem andThen_eq_fault (r : Result) (k : State → State) (e : Fault) : andThen r k = .fault e ↔ r = .fault e := by
  cases r <;> simp [andThen]

theorem andThen_eq_refused (r : Result) (k : State → State) (q : Refusal) : andThen r k = .refused q ↔ r = .refused q := by
  cases r <;> simp [andThen]

theorem step_ne_refused (s : State) (q : Refusal) : step s ≠ .refused q := by
  intro h
  cases stepKind s with
  | counts hm hd hstep => cases hstep.symm.trans h
  | fatal k hm hp hstep => cases hstep.symm.trans h
  | services k n hs hstep => cases hstep.symm.trans h
  | parked p n hw hp hstep => cases hstep.symm.trans h
  | runs p n hw hp hstep => exact exec_ne_refused _ s q ((andThen_eq_refused ..).mp (hstep.symm.trans h))

/-- Only an instruction can halt, and only the tick's beginning can be fatal. -/
theorem step_eq_fault {s : State} {e : Fault} (h : step s = .fault e) :
    (s.cfg.cycleMode = false ∧ (∃ k, s.pending = .service k) ∧ e = .serviceStateInIPS) ∨
      s.wai = false ∧ (∃ p n, Passes s (dispatchCycles s) p n) ∧ exec (fetchInstr s) s = .fault e := by
  cases stepKind s with
  | counts hm hd hstep => cases hstep.symm.trans h
  | fatal k hm hp hstep =>
    cases hstep.symm.trans h
    exact .inl ⟨hm, ⟨k, hp⟩, rfl⟩
  | services k n hs hstep => cases hstep.symm.trans h
  | parked p n hw hp hstep => cases hstep.symm.trans h
  | runs p n hw hp hstep => exact .inr ⟨hw, ⟨p, n, hp⟩, (andThen_eq_fault ..).mp (hstep.symm.trans h)⟩

theorem step_eq_serviceStateInIPS_iff (s : State) :
    step s = .fault .serviceStateInIPS ↔ s.cfg.cycleMode = false ∧ ∃ k, s.pending = .service k := by
  constructor
  · intro h
    obtain ⟨hm, hp, -⟩ | ⟨-, -, hexec⟩ := step_eq_fault h
    · exact ⟨hm, hp⟩
    · obtain ⟨op, -, -, he⟩ := exec_eq_fault_iff.mp hexec
      cases he
  · rintro ⟨hm, k, hp⟩
    exact step_fatal hm hp

theorem dispatches_of_passes {s : State} {cost n : Nat} {p : Pending} (hw : s.wai = false) (h : Passes s cost p n) :
    Dispatches s := by
  have hnot (hn : NothingTaken s) (k : Request) : s.pending ≠ .service k := by
    obtain hp | ⟨hp, -⟩ := hn <;> rw [hp] <;> nofun
  obtain ⟨hm, hn, -⟩ | ⟨hm, hd, hn, -⟩ | ⟨hm, hd, k, hp, -⟩ := h
  · exact ⟨hw, fun _ => hn, fun hm' => absurd (hm.symm.trans hm') nofun⟩
  · exact ⟨hw, fun hm' => absurd (hm.symm.trans hm') nofun, fun _ => ⟨hd, hnot hn⟩⟩
  · exact ⟨hw, fun hm' => absurd (hm.symm.trans hm') nofun, fun _ => ⟨hd, fun j => by rw [hp]; nofun⟩⟩

theorem passes_of_dispatches {s : State} (h : Dispatches s) (cost : Nat) : ∃ p n, Passes s cost p n := by
  obtain ⟨-, hips, hcps⟩ := h
  cases hm : s.cfg.cycleMode with
  | false => exact ⟨_, _, .inl ⟨hm, hips hm, rfl, rfl⟩⟩
  | true =>
    obtain ⟨hd, hnot⟩ := hcps hm
    cases hp : s.pending with
    | none => exact ⟨_, _, .inr (.inl ⟨hm, hd, .inl hp, rfl, rfl⟩)⟩
    | request k =>
      obtain hk | ⟨rfl, hi⟩ := unmasked_or_masked k s
      · exact ⟨_, _, .inr (.inr ⟨hm, hd, k, hp, hk, rfl, rfl⟩)⟩
      · exact ⟨_, _, .inr (.inl ⟨hm, hd, .inr ⟨hp, hi⟩, rfl, rfl⟩)⟩
    | service k => exact absurd hp (hnot k)

theorem step_eq_halt_iff (s : State) (pc : Word) (op : Byte) : step s = .fault (.halt pc op) ↔
    Dispatches s ∧ At s (.invalid op) ∧ s.cfg.incOnMissing = false ∧ pc = s.pc := by
  constructor
  · intro h
    obtain ⟨-, -, he⟩ | ⟨hw, ⟨p, n, hpass⟩, hexec⟩ := step_eq_fault h
    · cases he
    · obtain ⟨op', hi, hinc, he⟩ := exec_eq_fault_iff.mp hexec
      cases he
      exact ⟨dispatches_of_passes hw hpass, hi ▸ at_fetchInstr s, hinc, rfl⟩
  · rintro ⟨hd, hat, hinc, rfl⟩
    obtain ⟨p, n, hpass⟩ := passes_of_dispatches hd (dispatchCycles s)
    obtain ⟨hw, -⟩ := hd
    rw [step_runs hw hpass, andThen_eq_fault, fetchInstr_of_at hat]
    exact execInvalid_halts op hinc

/-- Settles O54: the two stops, each by where it comes from. -/
theorem aStepStopsOnlyInTwoWays : Obligations.AStepStopsOnlyInTwoWays :=
  fun s => ⟨step_ne_refused s, step_eq_serviceStateInIPS_iff s, step_eq_halt_iff s⟩

/-! ## What a step keeps -/

/-- A step writes neither `backup` nor the configuration nor the selector. -/
theorem step_keeps {s t : State} (h : step s = .next t) :
    t.backup = s.backup ∧ t.cfg = s.cfg ∧ t.curIndReg = s.curIndReg := by
  cases nextKind_of_step h with
  | counts hm hd => exact ⟨rfl, rfl, rfl⟩
  | services k n hs =>
    rw [service_eq]
    exact ⟨rfl, rfl, rfl⟩
  | parked p n hw hp => exact ⟨rfl, rfl, rfl⟩
  | runs p n u hw hp hu =>
    rw [eq_graft_of_exec hu]
    simp

/-! ## A change of the rest of the state, before or after -/

theorem service_graft (k : Request) (r s : State) : service k (graft r s) = graft r (service k s) := by
  have hset (u : State) : (graft r u).setWai false = graft r (u.setWai false) := rfl
  rw [service, service, ← hset, ← takeException_graft]
  rfl

theorem service_comm_of_graft {s : State} (k : Request) (g : State → State) (hg : ∀ t, g (graft s t) = graft (g s) t) :
    service k (g s) = g (service k s) := by
  have hs : g s = graft (g s) s := by rw [← hg, graft_self]
  have hservice : service k s = graft s (service k s) := by rw [← service_graft, graft_self]
  rw [hs, service_graft, ← hg, ← hservice]

/-! ## X2 (10_state.md R34) -/

/-- With X selected, X2 is in the rest of the state. -/
theorem setX2_graft {s : State} (v : Word) (h : s.curIndReg = .x) (t : State) :
    ({ graft s t with x2 := v } : State) = graft { s with x2 := v } t := by
  rw [graft, graft, State.setIx_of_x s t.ix h, State.setIx_of_x { s with x2 := v } t.ix h]

theorem exec_setX2 {s : State} (v : Word) (h : s.curIndReg = .x) (i : Instr) :
    exec i { s with x2 := v } = andThen (exec i s) fun t => { t with x2 := v } :=
  exec_comm_of_graft (fun t => { t with x2 := v }) (setX2_graft v h) rfl fun _ _ => rfl

theorem step_setX2 {s : State} (v : Word) (h : s.curIndReg = .x) :
    step { s with x2 := v } = andThen (step s) fun t => { t with x2 := v } := by
  cases stepKind s with
  | counts hm hd hstep =>
    rw [hstep, step_counts (s := { s with x2 := v }) hm hd]
    rfl
  | fatal k hm hp hstep =>
    rw [hstep, step_fatal (s := { s with x2 := v }) hm hp]
    rfl
  | services k n hs hstep =>
    rw [hstep, step_services (s := { s with x2 := v }) hs,
      service_comm_of_graft k (fun t => { t with x2 := v }) (setX2_graft v h)]
    rfl
  | parked p n hw hp hstep =>
    rw [hstep, step_parked (s := { s with x2 := v }) hw hp]
    rfl
  | runs p n hw hp hstep =>
    have hfetch : fetchInstr { s with x2 := v } = fetchInstr s := rfl
    rw [hstep, step_runs (s := { s with x2 := v }) hw hp, hfetch, exec_setX2 v h, andThen_andThen, andThen_andThen]
    rfl

theorem x2_of_step {s t : State} (h : s.curIndReg = .x) (ht : step s = .next t) : t.x2 = s.x2 := by
  have hself : ({ s with x2 := s.x2 } : State) = s := rfl
  have hstep := step_setX2 s.x2 h
  rw [hself, ht] at hstep
  have hx2 : t = { t with x2 := s.x2 } := Host.Outcome.next.inj hstep
  rw [hx2]

/-- Settles O46: X2 is in the rest of the state, which a step only carries along. -/
theorem secondIndexRegisterIsUnused : Obligations.SecondIndexRegisterIsUnused := by
  refine fun s v h => ⟨State.ix_of_x s h, State.setIx_of_x s v h, exec_setX2 v h, step_setX2 v h, fun t ht => ?_⟩
  obtain ⟨-, -, hsel⟩ := step_keeps ht
  exact ⟨hsel.trans h, x2_of_step h ht⟩

/-! ## The host's `step()` -/

theorem setMode_graft (b : Bool) (r t : State) : setMode b (graft r t) = graft (setMode b r) t := by
  obtain ⟨_, _, _, _, _, _, _ | _⟩ := r <;> rfl

theorem dispatch_setMode (b : Bool) (s : State) : dispatch (setMode b s) = andThen (dispatch s) (setMode b) :=
  exec_comm_of_graft (setMode b) (setMode_graft b s) rfl fun _ _ => rfl

theorem ipsRun_setMode (b : Bool) (s : State) : ipsRun (setMode b s) = andThen (ipsRun s) (setMode b) := by
  have hw : (setMode b s).wai = s.wai := rfl
  rw [ipsRun, ipsRun, hw, dispatch_setMode]
  split
  · rfl
  · rw [andThen_andThen, andThen_andThen]
    rfl

/-- An IPS tick does not read the mode. -/
theorem ipsTick_setMode (b : Bool) (s : State) : ipsTick (setMode b s) = andThen (ipsTick s) (setMode b) := by
  have hpending : (setMode b s).pending = s.pending := rfl
  have hmasked : irqMasked (setMode b s) = irqMasked s := rfl
  rw [ipsTick, ipsTick, hpending, hmasked]
  cases s.pending with
  | none => exact ipsRun_setMode b s
  | service k => rfl
  | request k =>
    cases irqMasked s with
    | true => exact ipsRun_setMode b (s.setPending .none)
    | false =>
      exact congrArg (fun u : State => Host.Outcome.next ((u.setPending .none).setCycles 0 0))
        (service_comm_of_graft k (setMode b) (setMode_graft b s))

theorem hostStep_eq (s : State) : hostStep s = andThen (step (setMode false s)) (setMode s.cfg.cycleMode) := by
  have hback : setMode s.cfg.cycleMode (setMode false s) = s := rfl
  rw [step_of_ips (s := setMode false s) rfl, ← ipsTick_setMode, hback, hostStep]

/-- Settles O53: the tick does not read the mode, and its stop is that of a step in IPS mode. -/
theorem hostStepIsAnIpsTick : Obligations.HostStepIsAnIpsTick := by
  refine fun s => ⟨hostStep_eq s, ?_⟩
  rw [hostStep_eq, andThen_eq_fault, step_eq_serviceStateInIPS_iff]
  exact ⟨fun h => ⟨rfl, h⟩, fun ⟨_, h⟩ => h⟩

end Sys2Proof.Proofs
end

section
/-! The invariant of the machine (10_state.md R34, R45, R47; the canonical form, log 2): reset meets it, every step and every
host action that keeps the discipline of 60_exceptions.md R436 keep it, and so it holds of every reachable state. -/

namespace Sys2Proof.Proofs

open Sys2Proof.Machine Sys2Proof.Claims

/-! ## Canonical memory -/

theorem push16_wf (v : Word) (s : State) (h : s.mem.wf = true) : (push16 v s).mem.wf = true := by
  rw [push16_mem]
  exact Memory.wf_write _ _ _ (Memory.wf_write _ _ _ h)

theorem takeException_wf (n : Nat) (ret : Word) (stacked : Bool) (s : State) (h : s.mem.wf = true) :
    (takeException n ret stacked s).mem.wf = true := by
  rw [takeException_mem]
  split
  · exact h
  · exact pushContext_wf ret s h

theorem rmwMem_wf (op : Byte → Ccr → Byte × Ccr) (m : IndExt) (s : State) (h : s.mem.wf = true) :
    (rmwMem op m s).mem.wf = true :=
  Memory.wf_write _ _ _ h

/-- The instructions of 20_memory.md R81 write bytes, words or a frame. -/
theorem exec_wf {i : Instr} {s t : State} (h : exec i s = .next t) (hwf : s.mem.wf = true) : t.mem.wf = true := by
  cases i
  case staa | stab | psha | pshb =>
    obtain rfl := Host.Outcome.next.inj h
    exact Memory.wf_write _ _ _ hwf
  case neg | com | lsr | ror | asr | asl | rol | dec | inc | clr =>
    obtain rfl := Host.Outcome.next.inj h
    exact rmwMem_wf _ _ s hwf
  case sts | stx | std =>
    obtain rfl := Host.Outcome.next.inj h
    exact Memory.wf_write16 _ _ _ hwf
  case pshx | bsr | jsr =>
    obtain rfl := Host.Outcome.next.inj h
    exact push16_wf _ s hwf
  case swi =>
    obtain rfl := Host.Outcome.next.inj h
    exact takeException_wf swiIndex (s.pc + 1) false s hwf
  case wai =>
    obtain rfl := Host.Outcome.next.inj h
    rw [State.setPc_mem, State.setWai_mem]
    exact pushContext_wf (s.pc + 1) s hwf
  all_goals
    rw [exec_mem h rfl]
    exact hwf

theorem service_wf (k : Request) (s : State) (h : s.mem.wf = true) : (service k s).mem.wf = true :=
  takeException_wf k.index s.pc s.wai s h

theorem step_wf {s t : State} (h : step s = .next t) (hwf : s.mem.wf = true) : t.mem.wf = true := by
  cases nextKind_of_step h with
  | counts hm hd => exact hwf
  | services k n hs => exact service_wf k s hwf
  | parked p n hw hp => exact hwf
  | runs p n u hw hp hu =>
    rw [State.setCycles_mem, State.setPending_mem]
    exact exec_wf hu hwf

/-! ## The counter (R47, log 16) -/

theorem opcodeCycles_le_twelve (v : Variant) (op : Byte) : ∀ c ∈ opcodeCycles v op, c ≤ 12 := by
  revert op
  cases v <;> decide

theorem dispatchCycles_le (s : State) : dispatchCycles s ≤ max 12 s.cfg.invalidCycles := by
  unfold dispatchCycles
  split
  next c hc => exact le_max_of_le_left (opcodeCycles_le_twelve _ _ c hc)
  next => exact le_max_right ..

theorem passes_count_le {s : State} {cost bound n : Nat} {p : Pending} (h : Passes s cost p n) (hcost : cost ≤ bound) :
    n ≤ bound + Config.intEntryCycles := by
  obtain ⟨-, -, -, rfl⟩ | ⟨-, -, -, -, rfl⟩ | ⟨-, -, k, -, -, -, rfl⟩ := h <;> omega

theorem services_count_le {s : State} {k : Request} {n : Nat} (h : Services s k n) : n ≤ 12 := by
  obtain ⟨-, -, -, rfl⟩ | ⟨-, -, -, rfl⟩ := h <;> omega

/-- A dispatch starts the counter at 0. -/
theorem counterBounded_of_le {t : State} (hc : t.cycle = 0)
    (hle : t.curCycles ≤ max 12 t.cfg.invalidCycles + Config.intEntryCycles) : CounterBounded t := by
  refine ⟨hle, ?_, fun hpos => ?_⟩
  · rw [hc]
    exact Nat.zero_le _
  · rwa [hc]

theorem step_counterBounded {s t : State} (h : step s = .next t) (hb : CounterBounded s) : CounterBounded t := by
  obtain ⟨-, hcfg, -⟩ := step_keeps h
  cases nextKind_of_step h with
  | counts hm hd =>
    obtain ⟨hle, -, -⟩ := hb
    have hlt : s.cycle + 1 < s.curCycles := Nat.not_le.mp hd
    exact ⟨hle, hlt.le, fun _ => hlt⟩
  | services k n hs => exact counterBounded_of_le rfl (le_add_right (le_max_of_le_left (services_count_le hs)))
  | parked p n hw hp => exact counterBounded_of_le rfl (passes_count_le hp (Nat.zero_le _))
  | runs p n u hw hp hu =>
    refine counterBounded_of_le rfl ?_
    rw [hcfg]
    exact passes_count_le hp (dispatchCycles_le s)

/-! ## Service states (R45) -/

theorem passes_pending {s : State} {cost n : Nat} {p : Pending} {k : Request} (h : Passes s cost p n)
    (hp : p = .service k) : s.cfg.cycleMode = true := by
  obtain ⟨-, -, rfl, -⟩ | ⟨hm, -⟩ | ⟨hm, -⟩ := h
  · cases hp
  · exact hm
  · exact hm

theorem step_serviceOnlyInCps {s t : State} (h : step s = .next t) : ServiceOnlyInCps t := by
  obtain ⟨-, hcfg, -⟩ := step_keeps h
  intro j hj
  rw [hcfg]
  cases nextKind_of_step h with
  | counts hm hd => exact hm
  | services k n hs => cases hj
  | parked p n hw hp => exact passes_pending hp hj
  | runs p n u hw hp hu => exact passes_pending hp hj

/-! ## Steps -/

/-- Settles O56: the parts of the invariant one by one, over the kinds of a step. -/
theorem everyStepKeepsTheInvariant : Obligations.EveryStepKeepsTheInvariant := by
  rintro s t ⟨⟨hmem, hbackup⟩, -, hcounter, hindex⟩ h
  obtain ⟨hb, -, hsel⟩ := step_keeps h
  rw [← hb] at hbackup
  exact ⟨⟨step_wf h hmem, hbackup⟩, step_serviceOnlyInCps h, step_counterBounded h hcounter, hsel.trans hindex⟩

/-- Settles O55: field by field. -/
theorem resetMeetsTheInvariant : Obligations.ResetMeetsTheInvariant :=
  ⟨⟨Memory.wf_nil, Memory.wf_nil⟩, nofun, counterBounded_of_le rfl (Nat.zero_le _), rfl⟩

end Sys2Proof.Proofs
end

section
/-! The host's operations (10_state.md R51 to R59, 60_exceptions.md R422, R436; 70_reset_and_hazards.md R470 to R476): what each
does, that a disciplined host keeps the invariant, and the runs of such a host. -/

namespace Sys2Proof.Proofs

open Sys2Proof.Machine Sys2Proof.Claims

/-! ## Requests and settings -/

theorem raiseRequest_of_none (k : Request) {s : State} (h : s.pending = .none) :
    raiseRequest k s = s.setPending (.request k) := if_pos h

theorem raiseRequest_of_ne_none (k : Request) {s : State} (h : s.pending ≠ .none) : raiseRequest k s = s := if_neg h

/-- The first request stays (R422). -/
theorem raiseRequest_raiseRequest (j k : Request) {s : State} (h : s.pending = .none) :
    raiseRequest k (raiseRequest j s) = raiseRequest j s := by
  rw [raiseRequest_of_none j h]
  exact raiseRequest_of_ne_none k nofun

theorem storedByte_store8 (s : State) (a : Word) (x : Byte) : StoredByte s (s.store8 a x) a x := storedByte_of_mem rfl

/-- Settles O60: a latched request is not overwritten, and a poke is a byte store. -/
theorem hostRequestsSettingsAndPokes : Obligations.HostRequestsSettingsAndPokes := by
  refine fun s => ⟨fun k => raiseRequest_of_none k, fun k => raiseRequest_of_ne_none k, fun j k hp => ?_, fun _ => rfl,
    fun _ => rfl, fun _ => rfl, fun a x => ⟨storedByte_store8 s a x, rfl⟩, fun x => ⟨storedByte_store8 s _ x, rfl⟩,
    fun x => ⟨storedByte_store8 s _ x, rfl⟩⟩
  rw [raiseRequest_raiseRequest j k hp, raiseRequest_of_none j hp]
  rfl

/-! ## The invariant -/

theorem inv_store8 {s : State} (h : Inv s) (a : Word) (x : Byte) : Inv (s.store8 a x) := by
  obtain ⟨⟨hmem, hbackup⟩, hservice, hcounter, hindex⟩ := h
  exact ⟨⟨Memory.wf_write s.mem a x hmem, hbackup⟩, hservice, hcounter, hindex⟩

theorem inv_hostReset {s : State} (h : Inv s) : Inv (hostReset s) := by
  obtain ⟨⟨-, hbackup⟩, -, -, -⟩ := h
  exact ⟨⟨hbackup, hbackup⟩, nofun, counterBounded_of_le rfl (Nat.zero_le _), rfl⟩

theorem inv_raiseRequest {s : State} (h : Inv s) (k : Request) : Inv (raiseRequest k s) := by
  by_cases hp : s.pending = .none
  · obtain ⟨hmemory, -, hcounter, hindex⟩ := h
    rw [raiseRequest_of_none k hp]
    exact ⟨hmemory, nofun, hcounter, hindex⟩
  · rwa [raiseRequest_of_ne_none k hp]

/-- A switch to IPS is the one action that the discipline is about. -/
theorem inv_setMode {s : State} (h : Inv s) {b : Bool} (hd : b = false → ∀ k, s.pending ≠ .service k) :
    Inv (setMode b s) := by
  obtain ⟨hmemory, -, hcounter, hindex⟩ := h
  refine ⟨hmemory, fun k hk => ?_, hcounter, hindex⟩
  cases b with
  | true => rfl
  | false => exact absurd hk (hd rfl k)

theorem inv_loadImage {s : State} (h : Inv s) (img : Vector Byte 65536) : Inv (loadImage img s) := by
  obtain ⟨-, hservice, hcounter, hindex⟩ := h
  exact ⟨⟨Memory.wf_ofImage img, Memory.wf_ofImage img⟩, hservice, hcounter, hindex⟩

/-- Settles O57: action by action; the variant and INC_ON_MISSING are not in the invariant. -/
theorem hostActionsKeepTheInvariant : Obligations.HostActionsKeepTheInvariant := by
  intro s act h hd
  cases act with
  | reset => exact inv_hostReset h
  | raise k => exact inv_raiseRequest h k
  | setMemory a x => exact inv_store8 h a x
  | setKey x => exact inv_store8 h _ x
  | setMouse x => exact inv_store8 h _ x
  | setMode b => exact inv_setMode h fun hb => hd (congrArg HostAction.setMode hb)
  | setIncOnMissing b => exact ⟨h.memory, h.service, h.counter, h.index⟩
  | switchVersion v => exact ⟨h.memory, h.service, h.counter, h.index⟩
  | loadImage img => exact inv_loadImage h img

/-- `step()` where it is not fatal: a step in IPS mode, and back, when no service state can be left pending. -/
theorem inv_hostStep {s t : State} (h : Inv s) (hp : ∀ k, s.pending ≠ .service k) (ht : hostStep s = .next t) : Inv t := by
  rw [hostStep_eq, andThen_eq_next] at ht
  obtain ⟨u, hu, rfl⟩ := ht
  have hinv : Inv u := everyStepKeepsTheInvariant _ u (inv_setMode h fun _ => hp) hu
  obtain ⟨-, hcfg, -⟩ := step_keeps hu
  refine inv_setMode hinv fun _ k hk => ?_
  have hips : (setMode false s).cfg.cycleMode = true := hcfg ▸ hinv.service k hk
  cases hips

theorem inv_of_reachable {s : State} (h : Reachable s) : Inv s := by
  induction h with
  | reset => exact resetMeetsTheInvariant
  | step _ hstep ih => exact everyStepKeepsTheInvariant _ _ ih hstep
  | action act _ hd ih => exact hostActionsKeepTheInvariant _ act ih hd
  | hostStep _ hp hstep ih => exact inv_hostStep ih hp hstep

/-- Settles O58: the fatal fault needs a service state in IPS mode, which the invariant excludes. -/
theorem disciplinedHostsNeverMeetTheFatalFault : Obligations.DisciplinedHostsNeverMeetTheFatalFault := by
  intro s h
  have hinv := inv_of_reachable h
  refine ⟨hinv, fun hfault => ?_⟩
  obtain ⟨hm, k, hp⟩ := (step_eq_serviceStateInIPS_iff s).mp hfault
  cases hm.symm.trans (hinv.service k hp)

/-! ## The image -/

/-- A byte that is not listed reads alike, since the cells after it have larger addresses. -/
theorem lookupCell_cellsFrom_cons (v : Byte) (rest : List Byte) (lo k : Nat) (hlen : lo + 1 + rest.length ≤ 65536) :
    lookupCell (cellsFrom lo (v :: rest)) k = if lo = k then v else lookupCell (cellsFrom (lo + 1) rest) k := by
  by_cases hv : v = unlistedByte
  · rw [cellsFrom, if_pos hv]
    split
    next hk => rw [← hk, lookupCell_below _ _ lo (risingFrom_cellsFrom rest (lo + 1) hlen) lo.lt_succ_self, hv]
    next => rfl
  · rw [cellsFrom, if_neg hv, lookupCell]

theorem lookupCell_cellsFrom (l : List Byte) (lo j : Nat) (hlen : lo + l.length ≤ 65536) (hj : j < l.length) :
    lookupCell (cellsFrom lo l) (lo + j) = l[j] := by
  induction l generalizing lo j with
  | nil => cases hj
  | cons v rest ih =>
    rw [List.length_cons] at hlen
    rw [lookupCell_cellsFrom_cons v rest lo _ (by omega)]
    cases j with
    | zero => exact if_pos rfl
    | succ j =>
      rw [if_neg (by omega), ← Nat.add_assoc, Nat.add_right_comm]
      exact ih (lo + 1) j (by omega) (Nat.lt_of_succ_lt_succ hj)

theorem read_ofImage (img : Vector Byte 65536) (a : Word) : (Memory.ofImage img).read a = img[a.toNat]'a.isLt := by
  have h := lookupCell_cellsFrom img.toList 0 a.toNat (by simp) (by simpa using a.isLt)
  rw [Nat.zero_add] at h
  exact h

theorem cellsFrom_replicate_unlisted (lo n : Nat) : cellsFrom lo (List.replicate n unlistedByte) = [] := by
  induction n generalizing lo with
  | zero => rfl
  | succ n ih => rw [List.replicate_succ, cellsFrom, if_pos rfl, ih]

theorem ofImage_zeros : Memory.ofImage (Vector.replicate 65536 0) = [] := by
  rw [Memory.ofImage, Vector.toList_replicate]
  exact cellsFrom_replicate_unlisted 0 65536

/-- R471. -/
theorem toNat_vectorFetch_zero (m : Memory) :
    (vectorFetch m 0).toNat = 256 * (m.read 0xFFFE).toNat + (m.read 0xFFFF).toNat := toNat_read16 m 0xFFFE

/-- R476. -/
theorem hostReset_loadImage_zeros {s : State} (h : s.cfg = Config.default) :
    hostReset (loadImage (Vector.replicate 65536 0) s) = { State.reset with draws := s.draws } := by
  rw [loadImage, ofImage_zeros, hostReset]
  simp only [h]
  rfl

/-- Settles O59: the image byte by byte, the fields of reset, and the model's start. -/
theorem imageThenReset : Obligations.ImageThenReset := by
  refine ⟨fun img s => ⟨read_ofImage img, rfl, Memory.wf_ofImage img⟩,
    fun s => ⟨hostReset s, rfl, rfl, ccrByte_ccrOfByte _, fun hv => ?vector, fun hv => ?parameter⟩,
    fun s => hostReset_loadImage_zeros⟩
  case vector =>
    rw [hostReset, if_pos hv]
    exact toNat_vectorFetch_zero s.backup
  case parameter => rw [hostReset, if_neg (ne_true_of_eq_false hv)]

end Sys2Proof.Proofs
end

section
/-! WAI (45_ccr_system.md R391) and the service that ends it (60_exceptions.md R426, R433): the frame is on the stack when the
core parks, the service leaves it there, and RTI pulls it. -/

namespace Sys2Proof.Proofs

open Sys2Proof.Machine Sys2Proof.Claims

/-- The state after WAI: parked, with the frame stacked. -/
def ParkedAfter (s t : State) (ret : Word) : Prop :=
  FramePushed s t ret ∧ t = { s with mem := t.mem, sp := t.sp, wai := true, pc := ret }

theorem execWai_parkedAfter (s : State) : ∃ t, execWai s = .next t ∧ ParkedAfter s t (s.pc + 1) := by
  refine ⟨_, rfl, framePushed_congr ?_ ?_ (pushContext_framePushed (s.pc + 1) s), ?_⟩
  · rw [State.setPc_sp, State.setWai_sp]
  · rw [State.setPc_mem, State.setWai_mem]
  · ext <;> simp

/-- A service that finds the core parked keeps the stacked frame, so RTI gives back the registers of the state that stacked
it. -/
theorem pullContext_of_service_parkedAfter {s t u : State} {ret : Word} {p : Pending} {k : Request}
    (h : ParkedAfter s t ret) (hserviced : Serviced k (t.setPending p) u) : pullContext u =
      { s with mem := t.mem, pc := ret, wai := false, pending := u.pending, cycle := u.cycle, curCycles := u.curCycles } := by
  obtain ⟨hframe, ht⟩ := h
  obtain ⟨hkept, -, hparked⟩ := hserviced
  have hw : (t.setPending p).wai = true := by rw [ht]; rfl
  obtain ⟨hmem, hsp⟩ := hparked hw
  have hix : u.ix = s.ix := by rw [hkept, ht]; rfl
  rw [pullContext_of_framePushed (framePushed_congr hsp hmem hframe), ← hix, setIx_ix_self, hkept, hmem, ht]
  rfl

/-- The service of a request raised right after WAI, in IPS mode, and the RTI after it. -/
theorem service_of_parkedAfter {s t : State} {ret : Word} {k : Request} (h : ParkedAfter s t ret)
    (hm : s.cfg.cycleMode = false) (hp : s.pending = .none) (hk : Unmasked k s) :
    ∃ u, step (raiseRequest k t) = .next u ∧ u.mem = t.mem ∧ u.pc = t.mem.read16 (vectorAddress k) ∧
      exec .rti u = .next { s with mem := t.mem, pc := ret, wai := false, cycle := 0, curCycles := 0 } := by
  have ⟨_, ht⟩ := h
  have hpending : t.pending = .none := by rw [ht]; exact hp
  have hmode : t.cfg.cycleMode = false := by rw [ht]; exact hm
  have hmask : Unmasked k t := by rw [ht]; exact hk
  have hw : t.wai = true := by rw [ht]
  have hserviced := serviced_service k .none 0 0 (t.setPending (.request k))
  have hmem := serviced_mem_of_parked hserviced hw
  rw [raiseRequest_of_none k hpending]
  refine ⟨_, step_services (.inl ⟨hmode, rfl, hmask, rfl⟩), hmem, ?pc, congrArg Host.Outcome.next ?rti⟩
  case pc => rw [serviced_pc hserviced, hmem]; rfl
  case rti =>
    rw [pullContext_of_service_parkedAfter h hserviced, State.setCycles_pending, State.setPending_pending, ← hp]
    rfl

/-- Settles O40: the next request is serviced in one IPS tick, and RTI from there pulls WAI's frame. -/
theorem waitForInterrupt : Obligations.WaitForInterrupt := by
  refine ⟨row_of_encode rfl rfl rfl, fun s => ?_⟩
  have hret : s.pc + 1 = BitVec.ofNat 16 (s.pc.toNat + 1) := add_eq_ofNat s.pc 1
  obtain ⟨t, ht, hparked⟩ := execWai_parkedAfter s
  rw [hret] at hparked
  exact ⟨t, ht, hparked.left, hparked.right, fun k hm hp hk => service_of_parkedAfter hparked hm hp hk⟩

end Sys2Proof.Proofs
end

section
/-! Memory (20_memory.md R73 to R75): 16-bit access as numbers, and that the canonical form is determined by what it reads. -/

namespace Sys2Proof.Proofs

open Sys2Proof.Machine

theorem ofNat_toNat_add_one (a : Word) : BitVec.ofNat 16 (a.toNat + 1) = a + 1 := (add_eq_ofNat a 1).symm

theorem toNat_eq_add_one_mod_iff (a b : Word) : b.toNat = (a.toNat + 1) % 65536 ↔ b = a + 1 :=
  (BitVec.toNat_eq (x := b) (y := a + 1)).symm

/-- Settles O7: read over write, with the addresses as numbers. -/
theorem sixteenBitAccessIsBigEndian : Obligations.SixteenBitAccessIsBigEndian := by
  refine fun m a b x v => ⟨?read, ?write, ?write16, Memory.read16_write16_same m a v⟩
  case read => rw [toNat_read16, ofNat_toNat_add_one]
  case write => simp only [Memory.read_write, BitVec.toNat_eq]
  case write16 =>
    rw [Memory.read_write16]
    simp only [toNat_eq_add_one_mod_iff, ← BitVec.toNat_eq]
    split_ifs
    · exact toNat_hiByte v
    · exact toNat_loByte v
    · rfl

/-! ## The canonical form -/

/-- The first cell of a canonical list, and the rest of it. -/
theorem risingFrom_cons_iff {lo k : Nat} {v : Byte} {rest : Memory} : risingFrom lo ((k, v) :: rest) = true ↔
    lo ≤ k ∧ k < 65536 ∧ v ≠ unlistedByte ∧ risingFrom (k + 1) rest = true := by
  simp [risingFrom, and_assoc]

theorem lookupCell_cons_same (k : Nat) (v : Byte) (rest : Memory) : lookupCell ((k, v) :: rest) k = v := if_pos rfl

theorem lookupCell_cons_ne {k j : Nat} (h : k ≠ j) (v : Byte) (rest : Memory) :
    lookupCell ((k, v) :: rest) j = lookupCell rest j := if_neg h

/-- An address that a canonical list begins with has a byte of its own, so no list that begins later reads alike there. -/
theorem not_risingFrom_of_lookup_eq {lo k : Nat} {v : Byte} {rest n : Memory} (hm : risingFrom lo ((k, v) :: rest) = true)
    (hread : lookupCell ((k, v) :: rest) k = lookupCell n k) : ¬risingFrom (k + 1) n = true := by
  intro hn
  obtain ⟨-, -, hv, -⟩ := risingFrom_cons_iff.mp hm
  rw [lookupCell_cons_same, lookupCell_below n (k + 1) k hn k.lt_succ_self] at hread
  exact hv hread

/-- Two canonical lists that read alike have the same first cell; the rests read alike, since neither lists its address. -/
theorem eq_of_lookup_eq {m n : Memory} {lo : Nat} (hm : risingFrom lo m = true) (hn : risingFrom lo n = true)
    (hread : ∀ k < 65536, lookupCell m k = lookupCell n k) : m = n := by
  induction m generalizing n lo with
  | nil =>
    cases n with
    | nil => rfl
    | cons c rest =>
      obtain ⟨j, w⟩ := c
      obtain ⟨-, hj, -, -⟩ := risingFrom_cons_iff.mp hn
      exact absurd rfl (not_risingFrom_of_lookup_eq hn (hread j hj).symm)
  | cons c m' ih =>
    obtain ⟨k, v⟩ := c
    obtain ⟨hlo, hk, hv, hm'⟩ := risingFrom_cons_iff.mp hm
    cases n with
    | nil => exact absurd rfl (not_risingFrom_of_lookup_eq hm (hread k hk))
    | cons d n' =>
      obtain ⟨j, w⟩ := d
      obtain ⟨-, hj, hw, hn'⟩ := risingFrom_cons_iff.mp hn
      have hkj : ¬k < j := fun h =>
        not_risingFrom_of_lookup_eq hm (hread k hk) (risingFrom_cons_iff.mpr ⟨h, hj, hw, hn'⟩)
      have hjk : ¬j < k := fun h =>
        not_risingFrom_of_lookup_eq hn (hread j hj).symm (risingFrom_cons_iff.mpr ⟨h, hk, hv, hm'⟩)
      obtain rfl : k = j := by omega
      have hvw := hread k hk
      rw [lookupCell_cons_same, lookupCell_cons_same] at hvw
      have hrest : ∀ i < 65536, lookupCell m' i = lookupCell n' i := fun i hi => by
        obtain rfl | hne := eq_or_ne k i
        · rw [lookupCell_below m' (k + 1) k hm' k.lt_succ_self, lookupCell_below n' (k + 1) k hn' k.lt_succ_self]
        · rw [← lookupCell_cons_ne hne v m', ← lookupCell_cons_ne hne w n', hread i hi]
      rw [hvw, ih hm' hn' hrest]

/-- Settles O8: an address below 65,536 is a word. -/
theorem equalReadsMakeEqualMemories : Obligations.EqualReadsMakeEqualMemories :=
  fun _ _ hm hn hread => eq_of_lookup_eq hm hn fun k hk => by
    have h := hread (BitVec.ofNat 16 k)
    rwa [Memory.read, Memory.read, BitVec.toNat_ofNat, Nat.mod_eq_of_lt hk] at h

end Sys2Proof.Proofs
end

section
/-! The branch conditions after a compare (40_decode_dispatch.md R163, R169): C is the unsigned order, Z is equality and
N xor V is the signed order of the bytes compared. -/

namespace Sys2Proof.Proofs

open Sys2Proof.Machine Sys2Proof.Claims

/-! ## The flags -/

theorem sub8_false (a b : Byte) : sub8 a b false = a - b := BitVec.sub_zero (a - b)

theorem compare_c (a b : Byte) (f : Ccr) : (subFlags8 a b (sub8 a b false) f).c = decide (a.toNat < b.toNat) := by
  rw [subFlags8_eq_difFlags8]
  rfl

theorem compare_z (a b : Byte) (f : Ccr) : (subFlags8 a b (sub8 a b false) f).z = decide (a = b) := by
  rw [sub8_false]
  exact decide_eq_decide.mpr sub_eq_zero

theorem compare_n (a b : Byte) (f : Ccr) : (subFlags8 a b (sub8 a b false) f).n = decide ((a - b).toInt < 0) := by
  rw [sub8_false]
  exact (BitVec.msb_eq_getLsbD_last _).symm.trans BitVec.msb_eq_toInt

theorem compare_v (a b : Byte) (f : Ccr) :
    (subFlags8 a b (sub8 a b false) f).v = decide (a.toInt - b.toInt < -128 ∨ 127 < a.toInt - b.toInt) := by
  rw [subFlags8_eq_difFlags8]
  simp [difFlags8]

theorem xor_decide_eq {p q r : Prop} [Decidable p] [Decidable q] [Decidable r] (h : r ↔ (p ↔ ¬q)) :
    (decide p ^^ decide q) = decide r := by
  by_cases p <;> by_cases q <;> simp_all

/-- The wrapped difference has the sign of the exact one, or the other sign when the exact one is out of range. -/
theorem compare_n_xor_v (a b : Byte) (f : Ccr) :
    ((subFlags8 a b (sub8 a b false) f).n ^^ (subFlags8 a b (sub8 a b false) f).v) = decide (a.toInt < b.toInt) := by
  have halo : -128 ≤ a.toInt := a.le_toInt
  have hahi : a.toInt < 128 := a.toInt_lt
  have hblo : -128 ≤ b.toInt := b.le_toInt
  have hbhi : b.toInt < 128 := b.toInt_lt
  have hwrap : (a - b).toInt = _ :=
    BitVec.toInt_sub.trans (bmod_two_mul_eq 128 (a.toInt - b.toInt) (by omega) (by omega))
  rw [compare_n, compare_v]
  apply xor_decide_eq
  split_ifs at hwrap <;> omega

/-! ## The orders -/

theorem or_decide_eq {p q r : Prop} [Decidable p] [Decidable q] [Decidable r] (h : r ↔ p ∨ q) :
    (decide p || decide q) = decide r := by
  rw [← Bool.decide_or, decide_eq_decide, h]

theorem not_decide_eq {p r : Prop} [Decidable p] [Decidable r] (h : r ↔ ¬p) : (!decide p) = decide r := by
  rw [← decide_not, decide_eq_decide, h]

theorem compare_c_or_z (a b : Byte) (f : Ccr) :
    ((subFlags8 a b (sub8 a b false) f).c || (subFlags8 a b (sub8 a b false) f).z) = decide (a.toNat ≤ b.toNat) := by
  rw [compare_c, compare_z]
  exact or_decide_eq (by rw [BitVec.toNat_eq]; exact le_iff_lt_or_eq)

theorem compare_z_or_n_xor_v (a b : Byte) (f : Ccr) :
    ((subFlags8 a b (sub8 a b false) f).z ||
      ((subFlags8 a b (sub8 a b false) f).n ^^ (subFlags8 a b (sub8 a b false) f).v)) = decide (a.toInt ≤ b.toInt) := by
  rw [compare_z, compare_n_xor_v]
  exact or_decide_eq (by rw [← BitVec.toInt_inj]; exact le_iff_eq_or_lt)

/-- Settles O13: six conditions are the flags and their combinations above, four the negations of such. -/
theorem conditionsAfterACompare : Obligations.ConditionsAfterACompare := by
  refine fun a b f => ⟨?hi, compare_c_or_z a b f, ?cc, compare_c a b f, ?ne, compare_z a b f, ?ge, compare_n_xor_v a b f, ?gt,
    compare_z_or_n_xor_v a b f⟩
  case hi => rw [condHolds, compare_c_or_z]; exact not_decide_eq not_le.symm
  case cc => rw [condHolds, compare_c]; exact not_decide_eq not_lt.symm
  case ne => rw [condHolds, compare_z]; exact not_decide_eq Iff.rfl
  case ge => rw [condHolds, compare_n_xor_v]; exact not_decide_eq not_lt.symm
  case gt => rw [condHolds, compare_z_or_n_xor_v]; exact not_decide_eq not_le.symm

end Sys2Proof.Proofs
end

section
/-! Decimal adjust (42_arith_logic.md R261 to R263): the correction as a number, the rows of its table, and what it makes of
the sum of two BCD bytes. -/

namespace Sys2Proof.Proofs

open Sys2Proof.Machine Sys2Proof.Claims

/-- The formula of R261 on the nibbles of A. -/
def correction (h c : Bool) (hi lo : Nat) : Nat :=
  (if h = true ∨ lo > 9 then 6 else 0) + (if c = true ∨ hi > 9 ∨ (hi > 8 ∧ lo > 9) then 96 else 0)

/-- The two parts of the correction share no bit. -/
theorem toNat_daaCorrection (a : Byte) (h c : Bool) :
    (daaCorrection a h c).toNat = correction h c (a.toNat / 16) (a.toNat % 16) := by
  unfold daaCorrection correction
  dsimp only
  split_ifs <;> rfl

theorem daaCorrection_and_ne_zero (a : Byte) (h c : Bool) :
    decide (daaCorrection a h c &&& 0x70 ≠ 0) = decide (96 ≤ correction h c (a.toNat / 16) (a.toNat % 16)) := by
  unfold daaCorrection correction
  dsimp only
  split_ifs <;> rfl

theorem toNat_daaOp_fst (a : Byte) (draw : Bool) (f : Ccr) :
    (daaOp a draw f).1.toNat = (a.toNat + correction f.h f.c (a.toNat / 16) (a.toNat % 16)) % 256 := by
  rw [daaOp, BitVec.toNat_add, toNat_daaCorrection]

theorem daaOp_snd (a : Byte) (draw : Bool) (f : Ccr) : (daaOp a draw f).2 =
    { signZero8 (daaOp a draw f).1 f with
      v := draw, c := f.c || decide (96 ≤ correction f.h f.c (a.toNat / 16) (a.toNat % 16)) } := by
  simp only [daaOp, nz8_eq_signZero8, daaCorrection_and_ne_zero]

theorem execDaa_eq (s : State) : exec .daa s = .next { s with
    a := (daaOp s.a (Config.daaV s.draws) s.ccr).1, ccr := (daaOp s.a (Config.daaV s.draws) s.ccr).2,
    pc := nextPc .daa s, draws := s.draws + 1 } := rfl

/-- C is never cleared, and set by the part of 96 (R261). -/
theorem row_of_correction {cf n : Nat} {c c' : Bool} (hcf : cf = n) (hc' : (c || decide (96 ≤ n)) = c') :
    cf = n ∧ (c || decide (96 ≤ cf)) = c' := ⟨hcf, hcf ▸ hc'⟩

/-- Settles O24: the formula, then the nine rows of the table, each of which decides both conditions of the formula. -/
theorem decimalAdjust : Obligations.DecimalAdjust := by
  refine ⟨row_of_encode rfl rfl rfl, fun s => ⟨_, _, correction s.ccr.h s.ccr.c (s.a.toNat / 16) (s.a.toNat % 16),
    Config.daaV s.draws, _, (daaOp s.a (Config.daaV s.draws) s.ccr).1, rfl, rfl, rfl, toNat_daaOp_fst .., rfl, ?exec, ?_⟩⟩
  case exec => rw [execDaa_eq, daaOp_snd]
  generalize s.a.toNat / 16 = hi
  generalize s.a.toNat % 16 = lo
  refine ⟨?_, ?_, ?_, ?_, ?_, ?_, ?_, ?_, ?_⟩
  all_goals
    intro hc hhi hh hlo
    rw [hc, hh]
    refine row_of_correction ?_ rfl
    simp only [correction, Bool.false_eq_true, true_or, false_or, if_true]
  all_goals split_ifs <;> omega

/-! ## Decimal addition -/

/-- The correction of a binary sum whose high digits sum to `t` and whose low digits, with the carry, sum to `u`: 6 carries out
of the low digit, 96 out of the high one. -/
theorem correction_of_digit_sums {t u : Nat} (ht : t ≤ 18) (hu : u ≤ 19) :
    correction (decide (16 ≤ u)) (decide (256 ≤ 16 * t + u)) ((16 * t + u) % 256 / 16) ((16 * t + u) % 256 % 16) =
      (if 10 ≤ u then 6 else 0) + (if 100 ≤ 10 * t + u then 96 else 0) := by
  have hlow : decide (16 ≤ u) = true ∨ (16 * t + u) % 256 % 16 > 9 ↔ 10 ≤ u := by
    rw [decide_eq_true_iff]
    omega
  have hhigh : decide (256 ≤ 16 * t + u) = true ∨ (16 * t + u) % 256 / 16 > 9 ∨
      ((16 * t + u) % 256 / 16 > 8 ∧ (16 * t + u) % 256 % 16 > 9) ↔ 100 ≤ 10 * t + u := by
    rw [decide_eq_true_iff]
    omega
  simp only [correction, hlow, hhigh]

/-- The corrected sum modulo 256 is the pair of digits `d`, `l` of the decimal sum: a carry out of the low digit takes 10 from
`u` and adds 1 to `t`, and one out of the high digit takes 10 from that. -/
theorem exists_digits_of_corrected_sum {t u : Nat} (ht : t ≤ 18) (hu : u ≤ 19) : ∃ d l, d ≤ 9 ∧ l ≤ 9 ∧
    ((16 * t + u) % 256 + ((if 10 ≤ u then 6 else 0) + (if 100 ≤ 10 * t + u then 96 else 0))) % 256 = 16 * d + l ∧
    (10 * t + u) % 100 = 10 * d + l := by
  split_ifs
  · exact ⟨t + 1 - 10, u - 10, by omega⟩
  · exact ⟨t + 1, u - 10, by omega⟩
  · exact ⟨t - 10, u, by omega⟩
  · exact ⟨t, u, by omega⟩

/-- C after DAA: the binary sum carried, or the correction's 96 applied. -/
theorem carry_of_corrected_sum {t u : Nat} (hu : u ≤ 19) :
    (decide (256 ≤ 16 * t + u) || decide (96 ≤ (if 10 ≤ u then 6 else 0) + (if 100 ≤ 10 * t + u then 96 else 0))) =
      decide (100 ≤ 10 * t + u) := by
  apply or_decide_eq
  split_ifs <;> omega

/-- Settles O25: the flags of the binary sum and its bytes, in terms of the sums of the digits. -/
theorem decimalAdjustGivesTheDecimalSum : Obligations.DecimalAdjustGivesTheDecimalSum := by
  rintro x y cin draw f ⟨hxhi, hxlo⟩ ⟨hyhi, hylo⟩
  have hcin := cin.toNat_le
  obtain ⟨t, ht⟩ : ∃ t, t = x.toNat / 16 + y.toNat / 16 := ⟨_, rfl⟩
  obtain ⟨u, hu⟩ : ∃ u, u = x.toNat % 16 + y.toNat % 16 + cin.toNat := ⟨_, rfl⟩
  have htle : t ≤ 18 := by omega
  have hule : u ≤ 19 := by omega
  have hsum : x.toNat + y.toNat + cin.toNat = 16 * t + u := by omega
  have hdecimal : bcdValue x + bcdValue y + cin.toNat = 10 * t + u := by
    rw [bcdValue, bcdValue]
    omega
  have ha : (add8 x y cin).toNat = (16 * t + u) % 256 := by rw [add8_eq_sum8, sum8, BitVec.toNat_ofNat, hsum]
  have hh : (addFlags8 x y (add8 x y cin) f).h = decide (16 ≤ u) := by rw [addFlags8_eq_sumFlags8, sumFlags8, ← hu]
  have hc : (addFlags8 x y (add8 x y cin) f).c = decide (256 ≤ 16 * t + u) := by
    rw [addFlags8_eq_sumFlags8, sumFlags8, hsum]
  have hr := toNat_daaOp_fst (add8 x y cin) draw (addFlags8 x y (add8 x y cin) f)
  rw [ha, hh, hc, correction_of_digit_sums htle hule] at hr
  obtain ⟨d, l, hd, hl, hdigits, hdecimalDigits⟩ := exists_digits_of_corrected_sum htle hule
  rw [hdigits] at hr
  refine ⟨?bcd, ?value, ?carry⟩
  case bcd =>
    rw [IsBcd, hr]
    omega
  case value =>
    rw [hdecimal, hdecimalDigits, bcdValue, hr]
    omega
  case carry =>
    rw [daaOp_snd, hdecimal, ha, hh, hc, correction_of_digit_sums htle hule]
    exact carry_of_corrected_sum hule

end Sys2Proof.Proofs
end
